-- ==== Sys2Proof/Word.lean ====
section
/-! DEFINITION. The word types of the part: the byte of the row line, of the configuration image and of the
service port, and the two small words the manual gives a width in bits (R1): the station address and the segment. -/

namespace Sys2Proof

/-- One byte, as the row line, the configuration image and the service port carry it (R174). -/
abbrev Byte := BitVec 8

/-- A station address, 0..31 (R1). -/
abbrev Address := BitVec 5

/-- A manifold segment, 0..15 (R1). -/
abbrev Segment := BitVec 4

end Sys2Proof
end

