-- ==== Sys2Proof/Syntax.lean ====
section
/-! DEFINITION. The commands of the block: one constructor per row of spec/opcode_table.json, with the operands the
row's rule gives the event. An operand is always something the part takes in from outside: the level of strap pins,
the bytes of the configuration image, a converter code, the bytes heard on the row line, the length of a pulse, a
service index. Operands that count ("further ticks", "further cycles") say how far the working counter named by the
rule has run on since the model last counted it; a run in which the idle ticks do all the counting gives 0. -/

namespace Sys2Proof

/-- The framing cell that a FRAME_ERROR is about (R27): a start cell that reads 1, or a stop cell that reads 0. -/
inductive FramingCell where
  /-- A start cell that read 1. -/
  | startHigh
  /-- A stop cell that read 0. -/
  | stopLow
  deriving DecidableEq, Repr

/-- The commands: every event and every operation of the part (opcode_table.json, row by row). -/
inductive Instr where
  /-- RESET (R6): power-on, or the RESET pin held low. -/
  | reset
  /-- RESET_RELEASE (R1): the RESET pin goes high; the strap pins ADDR4..ADDR0 and SEG3..SEG0 as they stand. -/
  | resetRelease (addr : Address) (seg : Segment)
  /-- LOAD_END (R2): the last byte of the configuration transfer; the bytes clocked in on MISO, byte 0 first. -/
  | loadEnd (image : List Byte)
  /-- JOIN_TIMER_EXPIRY (R11). -/
  | joinTimerExpiry
  /-- ANNOUNCE_TIMER_EXPIRY (R41). -/
  | announceTimerExpiry
  /-- HOLDOFF_EXPIRY (R52). -/
  | holdoffExpiry
  /-- ATTEMPT_START (R48): the station drives the start edge of the offered frame on an idle line. -/
  | attemptStart
  /-- START_EDGE (R26): the receiver takes a fall of the line in IDLE, with the receive filter on once the low level has held for 2 µs; how
  many whole µs that level holds in all (R23). -/
  | startEdge (held : Nat)
  /-- QUIET (R24): eight cell times without a falling edge, and the line high. -/
  | quiet
  /-- LINE_STUCK (R25): the line low for more than 16 cell times. -/
  | lineStuck
  /-- GAP_TIMEOUT (R28): a gap of 4 cell times in an unfinished frame. -/
  | gapTimeout
  /-- FRAME_ERROR (R27): the framing cell that read wrong. -/
  | frameError (cell : FramingCell)
  /-- LENGTH_ERROR (R29): the payload length field of the second header byte. -/
  | lengthError (len : BitVec 4)
  /-- GOOD_FRAME (R30): the frame on the line has run to its check byte's stop cell, which reads 1; all the frame's
  bytes as the line carried them: two header bytes, the payload, the check byte. -/
  | goodFrame (bytes : List Byte)
  /-- LOST_ARBITRATION (R36): the header data cell, 0..15 in the order sent, in which the station sent 1 and sampled 0. -/
  | lostArbitration (cell : Fin 16)
  /-- BIT_ERROR (R37): the value sampled in the mismatched cell, true for 1. -/
  | bitError (sampled : Bool)
  /-- ENTRY_STALE (R67): the address of the entry. -/
  | entryStale (addr : Address)
  /-- ENTRY_REMOVAL (R68): the address of the entry. -/
  | entryRemoval (addr : Address)
  /-- SCAN_TIMER_EXPIRY (R85). -/
  | scanTimerExpiry
  /-- REFERENCE_PHASE_END (R75): the M-th reference cycle completes; further ticks of the time base up to it. -/
  | referencePhaseEnd (ticks : Nat)
  /-- REFERENCE_FAULT (R76): the time base reaches 1,048,575 first. -/
  | referenceFault
  /-- SENSOR_PHASE_END (R77): the time base reaches 0; further whole oscillator cycles counted up to it. -/
  | sensorPhaseEnd (cycles : Nat)
  /-- COUNTER_OVERFLOW (R78): the measurement counter reaches 1,048,576. -/
  | counterOverflow
  /-- ACQUISITION_TIMER_EXPIRY (R91). -/
  | acquisitionTimerExpiry
  /-- CONVERSION_END (R92): the 12-bit code of the channel being converted. -/
  | conversionEnd (code : BitVec 12)
  /-- FLOW_RISING_EDGE (R100): a rising edge at FLOW; further ticks of the period counter up to it. -/
  | flowRisingEdge (ticks : Nat)
  /-- NO_FLOW (R102): the period counter reaches 500,000 µs. -/
  | noFlow
  /-- WINDOW_EXPIRY (R116): the unit whose window timer expires. -/
  | windowExpiry (unit : Fin 8)
  /-- PERIOD_START (R143): a PWM period starts. -/
  | periodStart
  /-- PULL_IN_EXPIRY (R149). -/
  | pullInExpiry
  /-- STROKE_TIMER_EXPIRY (R150). -/
  | strokeTimerExpiry
  /-- IDENT (R170): a taken write of code 0x01. -/
  | ident
  /-- STATION (R170): a taken write of code 0x02. -/
  | station
  /-- ZONES (R89): a taken write of code 0x03. -/
  | zones
  /-- WATCH i (R171): a taken write of code 0x04 and the index byte. -/
  | watch (index : Byte)
  /-- ROSTER i (R171): a taken write of code 0x05 and the index byte. -/
  | roster (index : Byte)
  /-- CAPTURE_INFO (R170): a taken write of code 0x06. -/
  | captureInfo
  /-- CAPTURE i (R171): a taken write of code 0x07 and the index byte. -/
  | capture (index : Byte)
  /-- RELEASE (R17): a taken write of code 0x10. -/
  | release
  /-- ACKNOWLEDGE (R16): a taken write of code 0x11. -/
  | acknowledge
  /-- SCAN (R84): a taken write of code 0x12. -/
  | scan
  /-- FREEZE (R161): a taken write of code 0x13. -/
  | freeze
  /-- RESUME (R163): a taken write of code 0x14. -/
  | resume
  /-- PARK (R14): a taken write of code 0x15. -/
  | park
  /-- UNPARK (R15): a taken write of code 0x16. -/
  | unpark
  /-- BAD_REQUEST (R166): a taken write of an unknown code, or of an indexed request without its index byte. -/
  | badRequest
  /-- SERVICE_READ (R167): a read transaction that ends after this many bytes have been sent. -/
  | serviceRead (count : Nat)
  /-- CELL_SAMPLE_POINT (R22): 10 µs after the cell's edge. -/
  | cellSamplePoint
  /-- ROW_FALLING_EDGE (R21): the receiver takes a fall of the line, with the receive filter on once the low level has held for 2 µs; how
  many whole µs that level holds in all (R23). -/
  | rowFallingEdge (held : Nat)
  /-- ROW_RISING_EDGE (R25): the receiver takes a rise of the line, with the receive filter on once the high level has held for 2 µs; how
  many whole µs that level holds in all (R23). -/
  | rowRisingEdge (held : Nat)
  /-- TRANSMIT_CELL_EDGE (R21): 20 µs after the edge of the current cell, the transmitter starts its next cell. -/
  | transmitCellEdge
  /-- DRIVE_RELEASE (R22): the end of the low time the transmitter drives. -/
  | driveRelease
  deriving DecidableEq, Repr

end Sys2Proof
end

