-- ==== Sys2Proof/Decode.lean ====
section
/-! DEFINITION. What spells a command. The opcode table gives no row any bits, so no table word is a command; the service port's
requests are spelt by the bytes of a taken write (R165, R166; log entry 24). -/

namespace Sys2Proof

/-- The command that a word of opcode_table.json's bits spells. No row of the table gives bits ("fields" is empty in every row and
there is no "fixed"), so no word spells one. -/
def decodeTableWord (_nbits _w : Nat) : Option Instr := none

/-- The command that the whole bytes of a taken write spell: the request code, and the index where the request calls for one;
bytes after those are ignored. A code not in the table, or an indexed request without its index, is a BAD_REQUEST (R166). A write
that carries no whole byte is not taken (R165). -/
def decodeWrite : List Byte → Option Instr
  | [] => none
  | code :: rest =>
    let indexed (f : Byte → Instr) : Instr :=
      match rest with
      | i :: _ => f i
      | [] => .badRequest
    some
      (match code.toNat with
       | 0x01 => .ident
       | 0x02 => .station
       | 0x03 => .zones
       | 0x04 => indexed .watch
       | 0x05 => indexed .roster
       | 0x06 => .captureInfo
       | 0x07 => indexed .capture
       | 0x10 => .release
       | 0x11 => .acknowledge
       | 0x12 => .scan
       | 0x13 => .freeze
       | 0x14 => .resume
       | 0x15 => .park
       | 0x16 => .unpark
       | _ => .badRequest)

/-! ## Transactions on the bus (R165) -/

/-- The 7-bit address at which the service port answers. -/
def serviceAddress : BitVec 7 := 0x4E

/-- The whole bytes of the bits clocked in, most significant bit first; a byte cut short is dropped. -/
def wholeBytes : List Bool → List Byte
  | b7 :: b6 :: b5 :: b4 :: b3 :: b2 :: b1 :: b0 :: rest =>
    (BitVec.ofBool b7 ++ BitVec.ofBool b6 ++ BitVec.ofBool b5 ++ BitVec.ofBool b4 ++ BitVec.ofBool b3 ++
      BitVec.ofBool b2 ++ BitVec.ofBool b1 ++ BitVec.ofBool b0) :: wholeBytes rest
  | _ => []

/-- The command of a write transaction, from the bits after its address: none at any other address, the general call included, and
none without a whole byte. -/
def busWrite (addr : BitVec 7) (bits : List Bool) : Option Instr :=
  if addr = serviceAddress then decodeWrite (wholeBytes bits) else none

/-- The command of a read transaction that ends after count bytes: none at any other address. -/
def busRead (addr : BitVec 7) (count : Nat) : Option Instr :=
  if addr = serviceAddress then some (.serviceRead count) else none

end Sys2Proof
end

