-- ==== Sys2Proof/Config.lean ====
section
/-! DEFINITION. The configuration set (R4): every field that sets the part's behaviour, held unchanged from the end of
the load until the next reset (R2). Reading it from the image is in Machine/ConfigLoad.lean. The manual leaves no
value open that an implementation would fix, so there is no free constant here. -/

namespace Sys2Proof

/-- The source of a watch unit's samples (R4, R107). -/
inductive Source where
  | none
  | zone (z : Fin 4)
  | returnTemp
  | supplyTemp
  | diffPressure
  | flowExcess
  | peerDrip
  deriving DecidableEq, Repr

/-- A watch unit's comparison (R108). -/
inductive Comparison where
  | above
  | below
  | outside
  | inside
  deriving DecidableEq, Repr

/-- A watch unit's count mode (R110). -/
inductive CountMode where
  | consecutive
  | cumulative
  deriving DecidableEq, Repr

/-- A watch unit's arming (R113 to R115). -/
inductive Arming where
  | always
  | afterUnit (k : Fin 8)
  | afterPeerDrip
  deriving DecidableEq, Repr

/-- A watch unit's action (R120 to R123). -/
inductive Action where
  | note
  | alert
  | isolate
  | freeze
  | chain
  deriving DecidableEq, Repr

/-- A watch unit's latch (R117, R118). -/
inductive Latch where
  | latched
  | selfClear
  deriving DecidableEq, Repr

/-- The eleven fields of one watch unit (R4). -/
structure UnitConfig where
  source : Source
  comparison : Comparison
  low : Int
  high : Int
  /-- count N -/
  countN : Nat
  countMode : CountMode
  arming : Arming
  /-- window, ms -/
  window : Nat
  action : Action
  latch : Latch
  clearCount : Nat
  deriving DecidableEq, Repr

/-- The engineering values of one analog channel at code 0 and code 4095 (R94). -/
structure AnalogScale where
  low : Int
  high : Int
  deriving DecidableEq, Repr

/-- The configuration set (R4). Flows are in dL/min, times in ms, temperatures in 0.1 °C. -/
structure ConfigSet where
  /-- P_ann in units of 50 ms -/
  pAnnUnits : Nat
  /-- C, the row capacity -/
  capacity : Nat
  /-- Q, the containment quorum -/
  quorum : Nat
  /-- Gcont, the grant cap in CONTAINED -/
  gcont : Nat
  /-- the receive filter, true for on -/
  rxFilter : Bool
  tset : Nat
  dbase : Nat
  kd : Nat
  dmin : Nat
  dmax : Nat
  /-- S, the slew limit -/
  slew : Nat
  /-- F0..F8 -/
  flowPoints : Vector Nat 9
  /-- U0..U8 -/
  dutyPoints : Vector Nat 9
  trimStep : Nat
  tmax : Nat
  deadband : Nat
  pullInTime : Nat
  holdDuty : Nat
  strokeTime : Nat
  leakBy : Nat
  /-- K, pulses per litre -/
  kFactor : Nat
  /-- channels 0..3 -/
  analog : Vector AnalogScale 4
  /-- M, reference cycles per scan -/
  mCycles : Nat
  scanPeriod : Nat
  startZone : Fin 4
  endZone : Fin 4
  openThreshold : Nat
  decimation : Nat
  /-- watch units 0..7 -/
  units : Vector UnitConfig 8
  deriving DecidableEq, Repr

/-- The announce period in ms (R4). -/
def ConfigSet.pAnn (c : ConfigSet) : Nat := 50 * c.pAnnUnits

end Sys2Proof
end

