-- ==== Sys2Proof/Machine/ConfigLoad.lean ====
section
/-! DEFINITION. The configuration load: the default set (R4, R125), the image's bytes and fields (R176), the image check
(R3), the field tests (R4) and the repairs (R5). -/

namespace Sys2Proof.Machine

/-! ## The default set -/

/-- The default definition of watch unit u (R125). -/
def defaultUnit (u : Fin 8) : UnitConfig :=
  let zoneUnit (z : Fin 4) : UnitConfig :=
    { source := .zone z, comparison := .above, low := 0, high := 600, countN := 3, countMode := .consecutive,
      arming := .always, window := 0, action := .isolate, latch := .latched, clearCount := 1 }
  match u with
  | 0 => zoneUnit 0
  | 1 => zoneUnit 1
  | 2 => zoneUnit 2
  | 3 => { source := .zone 3, comparison := .above, low := 0, high := 400, countN := 4, countMode := .consecutive,
           arming := .always, window := 0, action := .alert, latch := .selfClear, clearCount := 4 }
  | 4 => { source := .zone 3, comparison := .above, low := 0, high := 400, countN := 1, countMode := .consecutive,
           arming := .afterPeerDrip, window := 30000, action := .isolate, latch := .latched, clearCount := 1 }
  | 5 => { source := .diffPressure, comparison := .below, low := 30, high := 0, countN := 10,
           countMode := .consecutive, arming := .always, window := 0, action := .chain, latch := .selfClear,
           clearCount := 10 }
  | 6 => { source := .flowExcess, comparison := .above, low := 0, high := 150, countN := 5,
           countMode := .consecutive, arming := .afterUnit 5, window := 10000, action := .isolate,
           latch := .latched, clearCount := 1 }
  | 7 => { source := .none, comparison := .above, low := 0, high := 0, countN := 1, countMode := .consecutive,
           arming := .always, window := 0, action := .note, latch := .latched, clearCount := 1 }

/-- The default valve table flow points F0..F8 (R4). -/
def defaultFlowPoints : Vector Nat 9 := #v[0, 250, 500, 750, 1000, 1250, 1500, 1750, 2000]

/-- The default valve table duty points U0..U8 (R4). -/
def defaultDutyPoints : Vector Nat 9 := #v[120, 260, 380, 480, 570, 650, 730, 810, 900]

/-- The default scaling of every analog channel (R4). -/
def defaultScale : AnalogScale := { low := 0, high := 1000 }

/-- The default of every field (R4, R125). -/
def defaultConfig : ConfigSet :=
  { pAnnUnits := 5, capacity := 6000, quorum := 2, gcont := 200, rxFilter := true,
    tset := 450, dbase := 600, kd := 40, dmin := 200, dmax := 1800, slew := 50,
    flowPoints := defaultFlowPoints, dutyPoints := defaultDutyPoints,
    trimStep := 2, tmax := 64, deadband := 10, pullInTime := 150, holdDuty := 400, strokeTime := 6000, leakBy := 8,
    kFactor := 450,
    analog := #v[defaultScale, defaultScale, defaultScale, defaultScale],
    mCycles := 4096, scanPeriod := 1000, startZone := 0, endZone := 3, openThreshold := 20, decimation := 10,
    units := #v[defaultUnit 0, defaultUnit 1, defaultUnit 2, defaultUnit 3,
                defaultUnit 4, defaultUnit 5, defaultUnit 6, defaultUnit 7] }

/-! ## The image's bytes (R174, R176) -/

/-- Byte i of the image. A memory that is absent or not answering leaves MISO high, so a byte that is not supplied reads
0xFF (R3; DESIGN CHOICE, safe: log entry 2). -/
def imageByte (img : List Byte) (i : Nat) : Nat := (img.getD i 0xFF).toNat

/-- The unsigned 16-bit value at bytes i and i+1, most significant byte first (R174). -/
def imageU16 (img : List Byte) (i : Nat) : Nat := 256 * imageByte img i + imageByte img (i + 1)

/-- The signed 16-bit value at bytes i and i+1 (R174). -/
def imageS16 (img : List Byte) (i : Nat) : Int := (BitVec.ofNat 16 (imageU16 img i)).toInt

/-- The signed 24-bit value at bytes i to i+2 (R174). -/
def imageS24 (img : List Byte) (i : Nat) : Int :=
  (BitVec.ofNat 24 (65536 * imageByte img i + imageU16 img (i + 1))).toInt

/-- The sum of bytes 0..219 (R3). -/
def imageSum (img : List Byte) : Nat := (List.range 220).foldl (fun acc i => acc + imageByte img i) 0

/-- The three checks of the image as a whole (R3). -/
def imageGood (img : List Byte) : Bool :=
  imageByte img 0 == 0x6B && imageByte img 1 == 222 && imageU16 img 220 == imageSum img % 65536

/-! ## The field tests (R4). Each test gives the value taken and whether the field was out of range. -/

/-- The outcome of a field test: the value taken, and true where the field was out of range and took its default. -/
structure Tested (α : Type) where
  val : α
  bad : Bool

/-- An unsigned field with the range lo..hi. -/
def testNat (lo hi dflt v : Nat) : Tested Nat :=
  if lo ≤ v ∧ v ≤ hi then ⟨v, false⟩ else ⟨dflt, true⟩

/-- A signed field with the range lo..hi. -/
def testInt (lo hi dflt v : Int) : Tested Int :=
  if lo ≤ v ∧ v ≤ hi then ⟨v, false⟩ else ⟨dflt, true⟩

/-- An enumerated field: none where the code is not listed. -/
def testCode {α : Type} (dflt : α) (v : Option α) : Tested α :=
  match v with
  | some a => ⟨a, false⟩
  | none => ⟨dflt, true⟩

/-- Nine 16-bit table values from byte i on, each with the range 0..hi. -/
def testTable (img : List Byte) (i hi : Nat) (dflt : Vector Nat 9) : Tested (Vector Nat 9) :=
  let t (k : Fin 9) : Tested Nat := testNat 0 hi dflt[k] (imageU16 img (i + 2 * k.val))
  ⟨#v[(t 0).val, (t 1).val, (t 2).val, (t 3).val, (t 4).val, (t 5).val, (t 6).val, (t 7).val, (t 8).val],
   (t 0).bad || (t 1).bad || (t 2).bad || (t 3).bad || (t 4).bad || (t 5).bad || (t 6).bad || (t 7).bad || (t 8).bad⟩

/-- The receive filter code (R176): 0 off, 1 on. -/
def filterOfCode : Nat → Option Bool
  | 0 => some false
  | 1 => some true
  | _ => none

/-- A zone nibble (R176), with the range 0..3. -/
def zoneOfCode : Nat → Option (Fin 4)
  | 0 => some 0
  | 1 => some 1
  | 2 => some 2
  | 3 => some 3
  | _ => none

/-- The source code of a watch unit (R176). -/
def sourceOfCode : Nat → Option Source
  | 0 => some .none
  | 1 => some (.zone 0)
  | 2 => some (.zone 1)
  | 3 => some (.zone 2)
  | 4 => some (.zone 3)
  | 5 => some .returnTemp
  | 6 => some .supplyTemp
  | 7 => some .diffPressure
  | 8 => some .flowExcess
  | 9 => some .peerDrip
  | _ => none

/-- The comparison code of a watch unit (R176). -/
def comparisonOfCode : Nat → Option Comparison
  | 0 => some .above
  | 1 => some .below
  | 2 => some .outside
  | 3 => some .inside
  | _ => none

/-- The count mode code of a watch unit (R176). -/
def countModeOfCode : Nat → Option CountMode
  | 0 => some .consecutive
  | 1 => some .cumulative
  | _ => none

/-- The arming code of a watch unit (R176). -/
def armingOfCode : Nat → Option Arming
  | 0x00 => some .always
  | 0x10 => some (.afterUnit 0)
  | 0x11 => some (.afterUnit 1)
  | 0x12 => some (.afterUnit 2)
  | 0x13 => some (.afterUnit 3)
  | 0x14 => some (.afterUnit 4)
  | 0x15 => some (.afterUnit 5)
  | 0x16 => some (.afterUnit 6)
  | 0x17 => some (.afterUnit 7)
  | 0x20 => some .afterPeerDrip
  | _ => none

/-- The action code of a watch unit (R176). -/
def actionOfCode : Nat → Option Action
  | 0 => some .note
  | 1 => some .alert
  | 2 => some .isolate
  | 3 => some .freeze
  | 4 => some .chain
  | _ => none

/-- The latch code of a watch unit (R176). -/
def latchOfCode : Nat → Option Latch
  | 0 => some .latched
  | 1 => some .selfClear
  | _ => none

/-- Watch unit u of the image, at bytes 92 + 16u to 107 + 16u, each field tested with the unit's own default (R4, R176). -/
def readUnit (img : List Byte) (u : Fin 8) : Tested UnitConfig :=
  let b := 92 + 16 * u.val
  let d := defaultUnit u
  let source := testCode d.source (sourceOfCode (imageByte img b))
  let comparison := testCode d.comparison (comparisonOfCode (imageByte img (b + 1)))
  let low := testInt (-32768) 65535 d.low (imageS24 img (b + 2))
  let high := testInt (-32768) 65535 d.high (imageS24 img (b + 5))
  let countN := testNat 1 255 d.countN (imageByte img (b + 8))
  let countMode := testCode d.countMode (countModeOfCode (imageByte img (b + 9)))
  let arming := testCode d.arming (armingOfCode (imageByte img (b + 10)))
  let window := testNat 0 60000 d.window (imageU16 img (b + 11))
  let action := testCode d.action (actionOfCode (imageByte img (b + 13)))
  let latch := testCode d.latch (latchOfCode (imageByte img (b + 14)))
  let clearCount := testNat 1 255 d.clearCount (imageByte img (b + 15))
  ⟨{ source := source.val, comparison := comparison.val, low := low.val, high := high.val, countN := countN.val,
     countMode := countMode.val, arming := arming.val, window := window.val, action := action.val,
     latch := latch.val, clearCount := clearCount.val },
   source.bad || comparison.bad || low.bad || high.bad || countN.bad || countMode.bad || arming.bad || window.bad ||
   action.bad || latch.bad || clearCount.bad⟩

/-- The analog scaling of channel c, at bytes 68 + 4c to 71 + 4c. Every value the bytes hold is in range (R176). -/
def readScale (img : List Byte) (c : Fin 4) : AnalogScale :=
  { low := imageS16 img (68 + 4 * c.val), high := imageS16 img (70 + 4 * c.val) }

/-- The fields of a checked image, each tested on its own (R4), before the repairs of R5. -/
def testFields (img : List Byte) : Tested ConfigSet :=
  let d := defaultConfig
  let pAnnUnits := testNat 2 20 d.pAnnUnits (imageByte img 2)
  let capacity := testNat 100 64000 d.capacity (imageU16 img 3)
  let quorum := testNat 0 8 d.quorum (imageByte img 5)
  let gcont := testNat 0 2000 d.gcont (imageU16 img 6)
  let rxFilter := testCode d.rxFilter (filterOfCode (imageByte img 8))
  let tset := testNat 200 700 d.tset (imageU16 img 9)
  let dbase := testNat 0 2000 d.dbase (imageU16 img 11)
  let kd := testNat 0 255 d.kd (imageByte img 13)
  let dmin := testNat 0 2000 d.dmin (imageU16 img 14)
  let dmax := testNat 0 2000 d.dmax (imageU16 img 16)
  let slew := testNat 1 500 d.slew (imageU16 img 18)
  let flowPoints := testTable img 20 2000 d.flowPoints
  let dutyPoints := testTable img 38 1023 d.dutyPoints
  let trimStep := testNat 1 16 d.trimStep (imageByte img 56)
  let tmax := testNat 0 255 d.tmax (imageByte img 57)
  let deadband := testNat 0 200 d.deadband (imageByte img 58)
  let pullInTime := testNat 50 500 d.pullInTime (imageU16 img 59)
  let holdDuty := testNat 100 1023 d.holdDuty (imageU16 img 61)
  let strokeTime := testNat 1000 20000 d.strokeTime (imageU16 img 63)
  let leakBy := testNat 0 100 d.leakBy (imageByte img 65)
  let kFactor := testNat 50 5000 d.kFactor (imageU16 img 66)
  let mCycles := testNat 256 16384 d.mCycles (imageU16 img 84)
  let scanPeriod := testNat 250 10000 d.scanPeriod (imageU16 img 86)
  let startZone := testCode d.startZone (zoneOfCode (imageByte img 88 / 16))
  let endZone := testCode d.endZone (zoneOfCode (imageByte img 88 % 16))
  let openThreshold := testNat 0 1000 d.openThreshold (imageU16 img 89)
  let decimation := testNat 1 50 d.decimation (imageByte img 91)
  let u (k : Fin 8) : Tested UnitConfig := readUnit img k
  ⟨{ pAnnUnits := pAnnUnits.val, capacity := capacity.val, quorum := quorum.val, gcont := gcont.val,
     rxFilter := rxFilter.val, tset := tset.val, dbase := dbase.val, kd := kd.val, dmin := dmin.val,
     dmax := dmax.val, slew := slew.val, flowPoints := flowPoints.val, dutyPoints := dutyPoints.val,
     trimStep := trimStep.val, tmax := tmax.val, deadband := deadband.val, pullInTime := pullInTime.val,
     holdDuty := holdDuty.val, strokeTime := strokeTime.val, leakBy := leakBy.val, kFactor := kFactor.val,
     analog := #v[readScale img 0, readScale img 1, readScale img 2, readScale img 3],
     mCycles := mCycles.val, scanPeriod := scanPeriod.val, startZone := startZone.val, endZone := endZone.val,
     openThreshold := openThreshold.val, decimation := decimation.val,
     units := #v[(u 0).val, (u 1).val, (u 2).val, (u 3).val, (u 4).val, (u 5).val, (u 6).val, (u 7).val] },
   pAnnUnits.bad || capacity.bad || quorum.bad || gcont.bad || rxFilter.bad || tset.bad || dbase.bad || kd.bad ||
   dmin.bad || dmax.bad || slew.bad || flowPoints.bad || dutyPoints.bad || trimStep.bad || tmax.bad ||
   deadband.bad || pullInTime.bad || holdDuty.bad || strokeTime.bad || leakBy.bad || kFactor.bad || mCycles.bad ||
   scanPeriod.bad || startZone.bad || endZone.bad || openThreshold.bad || decimation.bad ||
   (u 0).bad || (u 1).bad || (u 2).bad || (u 3).bad || (u 4).bad || (u 5).bad || (u 6).bad || (u 7).bad⟩

/-! ## The repairs (R5) -/

/-- F0..F8 strictly increasing and U0..U8 not decreasing at any step. -/
def tablesInOrder (c : ConfigSet) : Bool :=
  let f := c.flowPoints
  let d := c.dutyPoints
  decide (f[0] < f[1] ∧ f[1] < f[2] ∧ f[2] < f[3] ∧ f[3] < f[4] ∧ f[4] < f[5] ∧ f[5] < f[6] ∧ f[6] < f[7] ∧
    f[7] < f[8]) &&
  decide (d[0] ≤ d[1] ∧ d[1] ≤ d[2] ∧ d[2] ≤ d[3] ∧ d[3] ≤ d[4] ∧ d[4] ≤ d[5] ∧ d[5] ≤ d[6] ∧ d[6] ≤ d[7] ∧
    d[7] ≤ d[8])

/-- Dmax below Dmin: Dmax takes the value of Dmin. -/
def repairDmax (c : ConfigSet) : ConfigSet :=
  if c.dmax < c.dmin then { c with dmax := c.dmin } else c

/-- Tables out of order: all eighteen table values take their defaults. -/
def repairTables (c : ConfigSet) : ConfigSet :=
  if tablesInOrder c then c else { c with flowPoints := defaultFlowPoints, dutyPoints := defaultDutyPoints }

/-- An analog channel with high at or below low: both take their defaults. -/
def repairScale (a : AnalogScale) : AnalogScale := if a.high ≤ a.low then defaultScale else a

/-- Start zone above end zone: start zone becomes 0 and end zone becomes 3. -/
def repairZones (c : ConfigSet) : ConfigSet :=
  if c.endZone.val < c.startZone.val then { c with startZone := 0, endZone := 3 } else c

/-- The three repairs of one watch unit, u being its own number. -/
def repairUnit (u : Fin 8) (c : UnitConfig) : UnitConfig :=
  { c with
    latch := if c.action = .isolate then .latched else c.latch
    arming :=
      if c.arming = .afterUnit u then .always
      else if c.source = .peerDrip ∧ c.arming = .afterPeerDrip then .always
      else c.arming }

/-- Every repair of R5. -/
def repair (c : ConfigSet) : ConfigSet :=
  let c := repairZones (repairTables (repairDmax c))
  { c with
    analog := #v[repairScale c.analog[0], repairScale c.analog[1], repairScale c.analog[2], repairScale c.analog[3]]
    units := #v[repairUnit 0 c.units[0], repairUnit 1 c.units[1], repairUnit 2 c.units[2], repairUnit 3 c.units[3],
                repairUnit 4 c.units[4], repairUnit 5 c.units[5], repairUnit 6 c.units[6], repairUnit 7 c.units[7]] }

/-! ## The load as a whole -/

/-- What a load leaves: the configuration set, CONFIG_DEFAULTED and CONFIG_ADJUSTED. -/
structure Loaded where
  cfg : ConfigSet
  defaulted : Bool
  adjusted : Bool
  deriving DecidableEq, Repr

/-- The checks, tests and repairs of R3 to R5 over the image's bytes. -/
def loadImage (img : List Byte) : Loaded :=
  if imageGood img then
    let tested := testFields img
    let repaired := repair tested.val
    { cfg := repaired, defaulted := false, adjusted := tested.bad || decide (repaired ≠ tested.val) }
  else
    { cfg := defaultConfig, defaulted := true, adjusted := false }

end Sys2Proof.Machine
end

