-- ==== Sys2Proof/Machine/State.lean ====
section
/-! DEFINITION. The state of the part, block by block as section 2 of the manual divides it, the reasons a step can stop,
the updates of one block, and the state after reset. All of it is plain data. Every timer and every working count is
held in µs of the 1 MHz time base, as the count that has run (a measure) or that is left (a timer); `none` is a
stopped timer or a count that is not running (DEDUCED, safe: log entry 6). -/

namespace Sys2Proof.Machine

/-! ## Codes shared by several blocks (R174) -/

/-- Station mode (section 1.3). -/
inductive Mode where
  | starting | joining | active | contained | isolated | parked | conflict
  deriving DecidableEq, Repr

/-- Dry-check state (section 1.4). -/
inductive DryCheck where
  | none | pending | passed | failed
  deriving DecidableEq, Repr

/-- Valve state (R142). -/
inductive ValveState where
  | closed | opening | opened | closing | stuck
  deriving DecidableEq, Repr

/-- Link state (R39). -/
inductive LinkState where
  | off | waitQuiet | idle | receiving | sending | holdoff | lineFault
  deriving DecidableEq, Repr

/-- Last link error (R55). -/
inductive LinkError where
  | none | frameError | gapTimeout | lengthError | checkError | bitError | lineStuck
  deriving DecidableEq, Repr

/-- Zone state (R80). -/
inductive ZoneState where
  | normal | openTape | short
  deriving DecidableEq, Repr

/-- Scan state of the drip sensing unit (R73). -/
inductive ScanState where
  | idle
  | reference
  | sensor (z : Fin 4)
  deriving DecidableEq, Repr

/-- State of a watch unit (R105). -/
inductive UnitStatus where
  | disarmed | armed | fired
  deriving DecidableEq, Repr

/-- Liveness of a roster entry (R56). -/
inductive Liveness where
  | live | stale
  deriving DecidableEq, Repr

/-- Severity of a drip report (R34, R56). -/
inductive Severity where
  | none | alert | isolate
  deriving DecidableEq, Repr

/-- Freeze reason of the capture history (R157). -/
inductive FreezeReason where
  | none | isolate | freezeUnit | service
  deriving DecidableEq, Repr

/-- Result codes of the service port (R166). -/
inductive ResultCode where
  | ok | badRequest | badIndex | wrongMode | stillWet | notFrozen | noRequest
  deriving DecidableEq, Repr

/-- The five station flags that a STATUS frame carries (R19, R174). -/
structure Flags where
  config : Bool
  sensorFault : Bool
  rosterOverflow : Bool
  watchFired : Bool
  strokeFault : Bool
  deriving DecidableEq, Repr

/-! ## Station supervisor (chapter 1) -/

/-- The station supervisor's state (R1, R6, R19). -/
structure Supervisor where
  mode : Mode
  dryCheck : DryCheck
  /-- join timer: µs left -/
  joinTimer : Option Nat
  /-- the join timer's expired mark -/
  joinExpired : Bool
  /-- join fault count, 0..3 -/
  joinFaults : Nat
  /-- the join-degrade contribution of R10 -/
  joinDegrade : Bool
  /-- own address; no value between reset and reset release -/
  ownAddr : Option Address
  /-- own segment; no value between reset and reset release -/
  ownSeg : Option Segment
  /-- the configuration set in force -/
  cfg : ConfigSet
  /-- the configuration transfer is in progress (R2) -/
  loading : Bool
  configDefaulted : Bool
  configAdjusted : Bool
  sensorFault : Bool
  watchFired : Bool
  deriving DecidableEq, Repr

/-! ## Row line interface (chapter 2) -/

/-- Receiver state (R26). -/
inductive RxState where
  | off | seekQuiet | idle | inFrame | stuck
  deriving DecidableEq, Repr

/-- The quiet timer (R24): stopped in OFF; running with the µs since its restart; run out with the line low, to restart
from the next rising edge. -/
inductive QuietTimer where
  | stopped
  | running (elapsed : Nat)
  | awaitRise
  deriving DecidableEq, Repr

/-- The bit cell in progress or last begun in a frame: µs since its edge, and whether its sample point has passed (R21, R22). -/
structure Cell where
  age : Nat
  sampled : Bool
  deriving DecidableEq, Repr

/-- The frame under assembly (R26): the bytes taken so far (header, then payload), the cells sampled in the current byte
(0..9), the data bits of the current byte so far (low end), and the running check over the bytes taken. -/
structure Assembly where
  taken : List Byte
  cells : Nat
  shift : Byte
  check : Byte
  deriving DecidableEq, Repr

/-- What a transmitted frame is: the head of the outgoing event queue, or a STATUS (R46). -/
inductive TxKind where
  | event
  | status
  deriving DecidableEq, Repr

/-- The frame in flight: what it is and all its bytes, check byte included (R48). -/
structure TxFrame where
  kind : TxKind
  bytes : List Byte
  deriving DecidableEq, Repr

/-- The row line interface's state (R20 to R26). -/
structure RowLine where
  /-- the driver: none released; some n driving low with n µs left -/
  driver : Option Nat
  /-- the level of the row line, true for low, as the edges taken through the receive filter have given it (R23; log entry 7) -/
  lineLow : Bool
  rx : RxState
  quiet : QuietTimer
  /-- the low-time measure: µs -/
  lowTime : Option Nat
  cell : Option Cell
  frame : Assembly
  /-- the frame in flight -/
  tx : Option TxFrame
  deriving DecidableEq, Repr

/-! ## Link controller (chapter 3) -/

/-- An entry of the outgoing event queue: kind and payload fields, fixed when it was queued (R43). -/
inductive EventFrame where
  | drip (seg : Segment) (sev : Severity) (zones : BitVec 4) (units : BitVec 8)
  | clear (seg : Segment)
  | leave
  deriving DecidableEq, Repr

/-- The link controller's state (chapter 3). -/
structure Link where
  link : LinkState
  /-- the outgoing event queue, oldest first -/
  queue : List EventFrame
  statusPending : Bool
  /-- the status renewed mark -/
  renewed : Bool
  /-- attempt count, 0..4 -/
  attempts : Nat
  /-- announce timer: µs left -/
  announce : Option Nat
  /-- holdoff timer: µs left -/
  holdoff : Option Nat
  lastError : LinkError
  deriving DecidableEq, Repr

/-! ## Peer roster (chapter 4) -/

/-- The mode held for a peer (R56). -/
inductive PeerMode where
  | active | contained | isolated
  deriving DecidableEq, Repr

/-- One peer's record (R56). -/
structure Entry where
  address : Address
  segment : Segment
  mode : PeerMode
  flags : Flags
  demand : Nat
  flow : Nat
  zones : BitVec 4
  /-- the peer's announce period, ms -/
  period : Nat
  liveness : Liveness
  /-- silence, µs -/
  silence : Nat
  /-- last severity; absent until a DRIP is heard -/
  severity : Option Severity
  deriving DecidableEq, Repr

/-- The peer roster: at most 24 entries in ascending address order (R56). -/
structure Roster where
  entries : List Entry
  /-- ROSTER_OVERFLOW -/
  overflow : Bool
  deriving DecidableEq, Repr

/-! ## Drip sensing unit (chapter 5) -/

/-- A zone reading (R81). -/
structure ZoneReading where
  zone : Fin 4
  ns : Nat
  index : Nat
  state : ZoneState
  scan : BitVec 16
  time : BitVec 32
  deriving DecidableEq, Repr

/-- The drip sensing unit's state (R73). -/
structure DripUnit where
  scan : ScanState
  rescan : Bool
  scanNumber : BitVec 16
  /-- Tref, ticks -/
  tref : Option Nat
  /-- consecutive reference-fault count, 0..255 -/
  refFaults : Nat
  /-- Tref as it stood before the scan in progress or last begun, to which an abort returns it (R87) -/
  trefBefore : Option Nat
  /-- the reference-fault count as it stood before that scan (R87) -/
  refFaultsBefore : Nat
  /-- latest zone readings -/
  latest : Vector (Option ZoneReading) 4
  /-- scan timer: µs left -/
  scanTimer : Option Nat
  /-- measurement counter of the phase in progress -/
  counter : Option Nat
  /-- time base of the phase in progress: counting up in REFERENCE, down in SENSOR(z) -/
  timeBase : Option Nat
  deriving DecidableEq, Repr

/-! ## Measurement unit (chapter 6) -/

/-- Scan state of the measurement unit (R90). -/
inductive AdcState where
  | idle
  | converting (ch : Fin 4)
  deriving DecidableEq, Repr

/-- Edge state of the flow meter (R99). -/
inductive EdgeState where
  | awaitFirst
  | timing
  deriving DecidableEq, Repr

/-- One analog channel: value or absent, validity (true for VALID), fault mark (R90). -/
structure Channel where
  value : Option Int
  valid : Bool
  fault : Bool
  deriving DecidableEq, Repr

/-- The measurement unit's state (R90). -/
structure Measure where
  /-- acquisition timer: µs left -/
  acqTimer : Option Nat
  adc : AdcState
  /-- the codes of the analog scan in progress, kept aside in channel order (R92) -/
  codes : List (BitVec 12)
  chans : Vector Channel 4
  /-- pressure difference of the last scan -/
  deltaP : Option Int
  /-- period counter, µs -/
  period : Option Nat
  edge : EdgeState
  /-- period window, oldest first -/
  window : List Nat
  flow : Nat
  /-- flow known-flag, true for KNOWN -/
  known : Bool
  deriving DecidableEq, Repr

/-- A measurement set (R96): the two temperatures with their validity, ΔP, the flow with its known-flag, the time. -/
structure MeasurementSet where
  supplyTemp : Option Int
  supplyValid : Bool
  returnTemp : Option Int
  returnValid : Bool
  deltaP : Option Int
  flow : Nat
  known : Bool
  time : BitVec 32
  deriving DecidableEq, Repr

/-! ## Watch engine (chapter 7) -/

/-- The working state of one watch unit (R105). -/
structure WatchUnit where
  status : UnitStatus
  /-- occurrence counter -/
  count : Nat
  /-- clear counter -/
  clear : Nat
  /-- window timer: µs left (0 until its expiry is taken: log entry 43); while the mode is PARKED it is suspended -/
  window : Option Nat
  /-- last value -/
  last : Option Int
  deriving DecidableEq, Repr

/-- The watch engine: units 0..7. -/
structure Watch where
  units : Vector WatchUnit 8
  deriving DecidableEq, Repr

/-! ## Share computer (chapter 8) -/

/-- The share computer's state (R127). -/
structure Share where
  demand : Nat
  grant : Nat
  baseDuty : Nat
  trim : Int
  duty : Nat
  deriving DecidableEq, Repr

/-! ## Valve drive (chapter 9) -/

/-- Drive of the return output (R145): off, fully on, or at the hold duty. -/
inductive ReturnDrive where
  | off | full | hold
  deriving DecidableEq, Repr

/-- The valve drive's state (R142). The supply output is driven at the applied duty while the valve is OPEN and is off
otherwise (R146), so it is read from these fields. -/
structure Valve where
  valve : ValveState
  applied : Nat
  pendingDuty : Nat
  /-- pull-in timer: µs left -/
  pullIn : Option Nat
  /-- stroke timer: µs left -/
  stroke : Option Nat
  reopen : Bool
  strokeFault : Bool
  returnDrive : ReturnDrive
  deriving DecidableEq, Repr

/-! ## Capture history (chapter 10) -/

/-- What an EVENT record reports (R158). -/
inductive CaptureEvent where
  | unitFired (u : Fin 8)
  | unitCleared (u : Fin 8)
  | mode (m : Mode)
  | peerDrip (addr : Address) (sev : Severity)
  | valve (v : ValveState)
  | holdoff
  | refFault
  deriving DecidableEq, Repr

/-- The figures of a MEAS record (R158). -/
structure MeasFigures where
  returnTemp : Option Int
  supplyTemp : Option Int
  deltaP : Option Int
  flow : Option Nat
  demand : Nat
  grant : Nat
  duty : Nat
  trim : Int
  deriving DecidableEq, Repr

/-- The kind of a record and the fields of its kind (R158). -/
inductive RecordBody where
  | zone (z : Fin 4) (index : Nat) (state : ZoneState) (scan : BitVec 16)
  | meas (figures : MeasFigures)
  | event (e : CaptureEvent)
  deriving DecidableEq, Repr

/-- One record (R158). -/
structure Record where
  time : BitVec 32
  body : RecordBody
  deriving DecidableEq, Repr

/-- The capture history's state (R157). -/
structure Capture where
  /-- capture state, true for FROZEN -/
  frozen : Bool
  /-- oldest first -/
  ring : List Record
  reason : FreezeReason
  unit : Option (Fin 8)
  time : Option (BitVec 32)
  /-- decimation count -/
  count : Nat
  deriving DecidableEq, Repr

/-! ## Service port (chapter 11) -/

/-- An answer waiting to be read: result code and the bytes of the item (R167). -/
structure Answer where
  result : ResultCode
  item : List Byte
  deriving DecidableEq, Repr

/-- The service port's state (chapter 11). -/
structure Service where
  pendingAnswer : Option Answer
  /-- ATTN, true for asserted -/
  attn : Bool
  /-- the MODEL's own field: the bytes the last read transaction returned on SDA (DESIGN CHOICE, safe: log entry 22) -/
  readOut : List Byte
  deriving DecidableEq, Repr

/-! ## The part as a whole -/

/-- The RESET pin and the time since start (section 5.4): held true while RESET is low, whole ms since reset release, and
the µs within the ms. -/
structure Clock where
  held : Bool
  ms : BitVec 32
  us : Nat
  deriving DecidableEq, Repr

/-- The state of the part: one field per block, the clock, and the commands waiting, first in, first out. -/
structure State where
  sup : Supervisor
  rli : RowLine
  lnk : Link
  ros : Roster
  dsu : DripUnit
  msu : Measure
  wch : Watch
  shr : Share
  vlv : Valve
  cap : Capture
  svc : Service
  clk : Clock
  pending : List Instr
  deriving DecidableEq, Repr

/-- The reasons a step can stop with a fault. The manual has no behaviour that stops the part, so there is none: no
command ends in a fault (DEDUCED: log entry 26). -/
inductive Fault where
  deriving DecidableEq, Repr

/-- The reasons a step can be refused. -/
inductive Refusal where
  /-- A command whose meaning is not modelled; only an arm of exec raises it. Safe: nothing is claimed of such a step. No
  arm raises it now. -/
  | notModelled (mnemonic : String)
  deriving DecidableEq, Repr

/-! ## Updates of one block -/

/-- Update the station supervisor. -/
def State.mapSup (f : Supervisor → Supervisor) (s : State) : State := { s with sup := f s.sup }
/-- Update the row line interface. -/
def State.mapRli (f : RowLine → RowLine) (s : State) : State := { s with rli := f s.rli }
/-- Update the link controller. -/
def State.mapLnk (f : Link → Link) (s : State) : State := { s with lnk := f s.lnk }
/-- Update the peer roster. -/
def State.mapRos (f : Roster → Roster) (s : State) : State := { s with ros := f s.ros }
/-- Update the drip sensing unit. -/
def State.mapDsu (f : DripUnit → DripUnit) (s : State) : State := { s with dsu := f s.dsu }
/-- Update the measurement unit. -/
def State.mapMsu (f : Measure → Measure) (s : State) : State := { s with msu := f s.msu }
/-- Update the watch engine. -/
def State.mapWch (f : Watch → Watch) (s : State) : State := { s with wch := f s.wch }
/-- Update the share computer. -/
def State.mapShr (f : Share → Share) (s : State) : State := { s with shr := f s.shr }
/-- Update the valve drive. -/
def State.mapVlv (f : Valve → Valve) (s : State) : State := { s with vlv := f s.vlv }
/-- Update the capture history. -/
def State.mapCap (f : Capture → Capture) (s : State) : State := { s with cap := f s.cap }
/-- Update the service port. -/
def State.mapSvc (f : Service → Service) (s : State) : State := { s with svc := f s.svc }
/-- Update the clock. -/
def State.mapClk (f : Clock → Clock) (s : State) : State := { s with clk := f s.clk }

/-! ## Reset -/

/-- The state a watch unit takes from its configured arming (R105). -/
def freshUnit (c : UnitConfig) : WatchUnit :=
  { status := if c.arming = .always then .armed else .disarmed, count := 0, clear := 0, window := none, last := none }

/-- The watch engine with every unit fresh (R105). -/
def freshWatch (c : ConfigSet) : Watch :=
  { units := #v[freshUnit c.units[0], freshUnit c.units[1], freshUnit c.units[2], freshUnit c.units[3],
                freshUnit c.units[4], freshUnit c.units[5], freshUnit c.units[6], freshUnit c.units[7]] }

/-- A frame under assembly with nothing taken; the check register starts at 0xFF (R30). -/
def emptyAssembly : Assembly := { taken := [], cells := 0, shift := 0, check := 0xFF }

/-- The part right after reset, the RESET pin still low (section 5.5 and the tables of R6, R26, chapter 3, R56, R73, R90,
R105, R127, R142, R157 and chapter 11). The row line is high: nothing has driven it (section 2.1;
DESIGN CHOICE, unsafe: log entry 5). The working fields of a frame, a cell and a scan stand empty (DESIGN CHOICE, unsafe: log entry
29). -/
def State.reset : State :=
  { sup := { mode := .starting, dryCheck := .none, joinTimer := none, joinExpired := false, joinFaults := 0,
             joinDegrade := false, ownAddr := none, ownSeg := none, cfg := defaultConfig, loading := false,
             configDefaulted := false, configAdjusted := false, sensorFault := false, watchFired := false }
    rli := { driver := none, lineLow := false, rx := .off, quiet := .stopped, lowTime := none, cell := none,
             frame := emptyAssembly, tx := none }
    lnk := { link := .off, queue := [], statusPending := false, renewed := false, attempts := 0, announce := none,
             holdoff := none, lastError := .none }
    ros := { entries := [], overflow := false }
    dsu := { scan := .idle, rescan := false, scanNumber := 0, tref := none, refFaults := 0,
             trefBefore := none, refFaultsBefore := 0, latest := Vector.replicate 4 none, scanTimer := none, counter := none, timeBase := none }
    msu := { acqTimer := none, adc := .idle, codes := [],
             chans := Vector.replicate 4 { value := none, valid := false, fault := false }, deltaP := none,
             period := none, edge := .awaitFirst, window := [], flow := 0, known := false }
    wch := freshWatch defaultConfig
    shr := { demand := 600, grant := 0, baseDuty := 0, trim := 0, duty := 0 }
    vlv := { valve := .closed, applied := 0, pendingDuty := 0, pullIn := none, stroke := none, reopen := false,
             strokeFault := false, returnDrive := .off }
    cap := { frozen := false, ring := [], reason := .none, unit := none, time := none, count := 0 }
    svc := { pendingAnswer := none, attn := false, readOut := [] }
    clk := { held := true, ms := 0, us := 0 }
    pending := [] }

end Sys2Proof.Machine
end

