-- ==== Sys2Proof/Machine/Codes.lean ====
section
/-! DEFINITION. The codes of modes, states and kinds, the same wherever they appear (R174), the multi-byte fields, most
significant byte first, and the station flags byte. -/

namespace Sys2Proof.Machine

/-! ## Multi-byte fields (R174) -/

/-- An unsigned 16-bit field. -/
def be16 (n : Nat) : List Byte := [BitVec.ofNat 8 (n / 256), BitVec.ofNat 8 n]

/-- A signed 16-bit field, two's complement. -/
def be16Int (i : Int) : List Byte := be16 (BitVec.ofInt 16 i).toNat

/-- A signed 24-bit field, two's complement. -/
def be24Int (i : Int) : List Byte :=
  let n := (BitVec.ofInt 24 i).toNat
  [BitVec.ofNat 8 (n / 65536), BitVec.ofNat 8 (n / 256), BitVec.ofNat 8 n]

/-- A 32-bit field. -/
def be32 (t : BitVec 32) : List Byte :=
  let n := t.toNat
  [BitVec.ofNat 8 (n / 16777216), BitVec.ofNat 8 (n / 65536), BitVec.ofNat 8 (n / 256), BitVec.ofNat 8 n]

/-- One byte of a count. -/
def byteOf (n : Nat) : Byte := BitVec.ofNat 8 n

/-- One bit of a byte, at position k. -/
def bitAt (k : Nat) (b : Bool) : Byte := if b then BitVec.ofNat 8 (2 ^ k) else 0

/-! ## Codes (R174) -/

/-- Station mode code. -/
def modeCode : Mode → Byte
  | .starting => 0
  | .joining => 1
  | .active => 2
  | .contained => 3
  | .isolated => 4
  | .parked => 5
  | .conflict => 6

/-- Mode code of a roster entry: the station mode's. -/
def peerModeCode : PeerMode → Byte
  | .active => 2
  | .contained => 3
  | .isolated => 4

/-- Dry-check state code. -/
def dryCheckCode : DryCheck → Byte
  | .none => 0
  | .pending => 1
  | .passed => 2
  | .failed => 3

/-- Valve state code. -/
def valveCode : ValveState → Byte
  | .closed => 0
  | .opening => 1
  | .opened => 2
  | .closing => 3
  | .stuck => 4

/-- Link state code. -/
def linkCode : LinkState → Byte
  | .off => 0
  | .waitQuiet => 1
  | .idle => 2
  | .receiving => 3
  | .sending => 4
  | .holdoff => 5
  | .lineFault => 6

/-- Last link error code. -/
def linkErrorCode : LinkError → Byte
  | .none => 0
  | .frameError => 1
  | .gapTimeout => 2
  | .lengthError => 3
  | .checkError => 4
  | .bitError => 5
  | .lineStuck => 6

/-- Zone state code. -/
def zoneStateCode : ZoneState → Byte
  | .normal => 0
  | .openTape => 1
  | .short => 2

/-- Scan state code. -/
def scanStateCode : ScanState → Byte
  | .idle => 0
  | .reference => 1
  | .sensor z => byteOf (2 + z.val)

/-- Unit state code. -/
def unitStatusCode : UnitStatus → Byte
  | .disarmed => 0
  | .armed => 1
  | .fired => 2

/-- Liveness code. -/
def livenessCode : Liveness → Byte
  | .live => 0
  | .stale => 1

/-- Severity code. -/
def severityCode : Severity → Byte
  | .none => 0
  | .alert => 1
  | .isolate => 2

/-- Capture state code, true for FROZEN. -/
def captureStateCode (frozen : Bool) : Byte := if frozen then 1 else 0

/-- Freeze reason code. -/
def freezeReasonCode : FreezeReason → Byte
  | .none => 0
  | .isolate => 1
  | .freezeUnit => 2
  | .service => 3

/-- Result code (R166). -/
def resultCode : ResultCode → Byte
  | .ok => 0x00
  | .badRequest => 0x01
  | .badIndex => 0x02
  | .wrongMode => 0x03
  | .stillWet => 0x04
  | .notFrozen => 0x05
  | .noRequest => 0x06

/-- The station flags byte as STATUS and the roster carry it: bits 0 to 4 (R174). -/
def flagsByte (f : Flags) : Byte :=
  bitAt 0 f.config ||| bitAt 1 f.sensorFault ||| bitAt 2 f.rosterOverflow ||| bitAt 3 f.watchFired |||
    bitAt 4 f.strokeFault

/-- The five flags of a flags byte; bits 5 to 7 are ignored (R175). -/
def flagsOfByte (b : Byte) : Flags :=
  { config := b.getLsbD 0, sensorFault := b.getLsbD 1, rosterOverflow := b.getLsbD 2, watchFired := b.getLsbD 3,
    strokeFault := b.getLsbD 4 }

/-- No flag set. -/
def noFlags : Flags :=
  { config := false, sensorFault := false, rosterOverflow := false, watchFired := false, strokeFault := false }

end Sys2Proof.Machine
end

