-- ==== Sys2Proof/Machine/Flags.lean ====
section
/-! DEFINITION. The station flags (R19) and the ATTN output (R173), the masks that STATUS and DRIP carry (R33, R34, R126),
each with the condition the manual gives it and the operation that brings it up to date. -/

namespace Sys2Proof.Machine

/-- The eight units in ascending number. -/
def allUnits : List (Fin 8) := [0, 1, 2, 3, 4, 5, 6, 7]

/-- Watch unit u is FIRED. -/
def isFired (s : State) (u : Fin 8) : Bool := decide (s.wch.units[u].status = .fired)

/-- Some watch unit is FIRED. -/
def anyFired (s : State) : Bool := allUnits.any (isFired s)

/-- Watch unit u is FIRED with action ISOLATE. -/
def isFiredIsolate (s : State) (u : Fin 8) : Bool :=
  isFired s u && decide (s.sup.cfg.units[u].action = .isolate)

/-- The latest reading of zone z has state OPEN. -/
def zoneOpen (s : State) (z : Fin 4) : Bool :=
  match s.dsu.latest[z] with
  | some r => decide (r.state = .openTape)
  | none => false

/-- Some condition of SENSOR_FAULT holds (R19): a reference-fault count above 0, a zone whose latest reading is OPEN, a
channel that the latest analog scan found INVALID, the join-degrade contribution. -/
def sensorFaultNow (s : State) : Bool :=
  decide (0 < s.dsu.refFaults) ||
  (zoneOpen s 0 || zoneOpen s 1 || zoneOpen s 2 || zoneOpen s 3) ||
  (s.msu.chans[0].fault || s.msu.chans[1].fault || s.msu.chans[2].fault || s.msu.chans[3].fault) ||
  s.sup.joinDegrade

/-- The supervisor re-evaluates SENSOR_FAULT (R19, R88). -/
def reevalSensorFault (s : State) : State :=
  s.mapSup fun p => { p with sensorFault := sensorFaultNow s }

/-- A firing sets WATCH_FIRED (R111 step 3). -/
def setWatchFired (s : State) : State := s.mapSup fun p => { p with watchFired := true }

/-- WATCH_FIRED clears when no unit is left FIRED (R119 step 3). -/
def reevalWatchFired (s : State) : State :=
  s.mapSup fun p => { p with watchFired := p.watchFired && anyFired s }

/-- The condition of ATTN (R173): a unit FIRED, or the mode ISOLATED, CONTAINED or CONFLICT, or STROKE_FAULT or
SENSOR_FAULT set. -/
def attnNow (s : State) : Bool :=
  anyFired s ||
  decide (s.sup.mode = .isolated ∨ s.sup.mode = .contained ∨ s.sup.mode = .conflict) ||
  s.vlv.strokeFault || s.sup.sensorFault

/-- ATTN follows its conditions in the same event (R173). -/
def updateAttn (s : State) : State := s.mapSvc fun v => { v with attn := attnNow s }

/-- CONFIG: CONFIG_DEFAULTED or CONFIG_ADJUSTED (R19). -/
def configFlag (s : State) : Bool := s.sup.configDefaulted || s.sup.configAdjusted

/-- The station flags as they stand, STROKE_FAULT and ROSTER_OVERFLOW as their owners hold them (R19). -/
def stationFlags (s : State) : Flags :=
  { config := configFlag s, sensorFault := s.sup.sensorFault, rosterOverflow := s.ros.overflow,
    watchFired := s.sup.watchFired, strokeFault := s.vlv.strokeFault }

/-- Unit u marks zone z: it is FIRED, its source is that zone, and its action is ALERT or ISOLATE (R33). -/
def marksZone (s : State) (z : Fin 4) (u : Fin 8) : Bool :=
  isFired s u && decide (s.sup.cfg.units[u].source = .zone z) &&
    decide (s.sup.cfg.units[u].action = .alert ∨ s.sup.cfg.units[u].action = .isolate)

/-- The zone mask, bit z for zone z (R33, R174). -/
def zoneMask (s : State) : BitVec 4 :=
  let m (z : Fin 4) : BitVec 4 := if allUnits.any (marksZone s z) then BitVec.ofNat 4 (2 ^ z.val) else 0
  m 0 ||| m 1 ||| m 2 ||| m 3

/-- The unit mask, bit u for watch unit u (R34, R174). -/
def unitMask (s : State) : BitVec 8 :=
  allUnits.foldl (fun acc u => acc ||| bitAt u.val (isFired s u)) 0

end Sys2Proof.Machine
end

