-- ==== Sys2Proof/Machine/Ops.lean ====
section
/-! DEFINITION. The operations that several blocks share: handing a record to the capture history, queueing an event frame,
setting status-pending, the OPEN and CLOSE requests, a scan trigger, a change of mode, the containment evaluation, an
isolation, the entry to JOINING. -/

namespace Sys2Proof.Machine

/-- A time in ms as a count of µs. -/
def msec (n : Nat) : Nat := 1000 * n

/-! ## Capture history (R159, R161) -/

/-- Append a record in RUNNING; at 256 the oldest is first dropped (R159). -/
def appendRecord (r : Record) (c : Capture) : Capture :=
  if c.frozen then c
  else { c with ring := if c.ring.length < 256 then c.ring ++ [r] else c.ring.tail ++ [r] }

/-- Hand a record to the capture history, with the present time (R158, R159). -/
def handRecord (b : RecordBody) (s : State) : State :=
  s.mapCap (appendRecord { time := s.clk.ms, body := b })

/-- Hand over an EVENT record. -/
def handEvent (e : CaptureEvent) (s : State) : State := handRecord (.event e) s

/-- A freeze request: taken in RUNNING it freezes with its reason, unit and time; in FROZEN it changes nothing (R161). -/
def requestFreeze (reason : FreezeReason) (unit : Option (Fin 8)) (s : State) : State :=
  s.mapCap fun c =>
    if c.frozen then c
    else { c with frozen := true, reason := reason, unit := unit, time := some s.clk.ms }

/-! ## Link controller (R42 to R44) -/

/-- A STATUS is in flight. -/
def statusInFlight (s : State) : Bool :=
  match s.rli.tx with
  | some t => decide (t.kind = .status)
  | none => false

/-- Set status-pending; while a STATUS is in flight, also the renewed mark (R42). An expiry of the announce timer is such a setting even
where it finds the flag set: R41 says that it then adds nothing, R42 that a setting during a STATUS sets the mark, and the model follows
R42 (DESIGN CHOICE, unsafe: log entry 38). -/
def setStatusPending (s : State) : State :=
  s.mapLnk fun l => { l with statusPending := true, renewed := l.renewed || statusInFlight s }

/-- An event frame joins the queue, or at 4 entries takes the place of the newest (R43, R44). -/
def enqueueFrame (f : EventFrame) (q : List EventFrame) : List EventFrame :=
  if q.length < 4 then q ++ [f] else q.take 3 ++ [f]

/-- Queue an event frame. -/
def queueEvent (f : EventFrame) (s : State) : State :=
  s.mapLnk fun l => { l with queue := enqueueFrame f l.queue }

/-- The own segment; every block that uses it does so after reset release, when it has a value (R1; DESIGN CHOICE, safe: log entry
30). -/
def ownSegment (s : State) : Segment := s.sup.ownSeg.getD 0

/-- The own address, likewise. -/
def ownAddress (s : State) : Address := s.sup.ownAddr.getD 0

/-- Queue a DRIP whose content is captured at this moment (R43). -/
def queueDrip (sev : Severity) (s : State) : State :=
  queueEvent (.drip (ownSegment s) sev (zoneMask s) (unitMask s)) s

/-! ## Valve drive (R147, R148, R153) -/

/-- Enter a valve state and hand over its VALVE record (R153). -/
def enterValve (v : ValveState) (s : State) : State :=
  handEvent (.valve v) (s.mapVlv fun d => { d with valve := v })

/-- The effects of an OPEN request in CLOSED (R147). -/
def startOpening (s : State) : State :=
  enterValve .opening
    (s.mapVlv fun d =>
      { d with pendingDuty := 0, pullIn := some (msec s.sup.cfg.pullInTime), returnDrive := .full })

/-- Both outputs off at once, the duties 0, a full stroke started (R148, in OPENING and OPEN). -/
def startClosing (s : State) : State :=
  enterValve .closing
    (s.mapVlv fun d =>
      { d with applied := 0, pendingDuty := 0, pullIn := none, returnDrive := .off,
               stroke := some (msec s.sup.cfg.strokeTime) })

/-- An OPEN request (R147). -/
def openRequest (s : State) : State :=
  match s.vlv.valve with
  | .closed => startOpening s
  | .stuck => startOpening s
  | .opening => s
  | .opened => s
  | .closing => s.mapVlv fun d => { d with reopen := true }

/-- A CLOSE request (R148). -/
def closeRequest (s : State) : State :=
  match s.vlv.valve with
  | .closed => s
  | .stuck => s
  | .opening => startClosing s
  | .opened => startClosing s
  | .closing => s.mapVlv fun d => { d with reopen := false }

/-! ## Drip sensing unit (R74, R84, R85) -/

/-- A scan begins: the number rises by 1 and the reference phase starts (R74, R75). What an abort would bring back is kept (R87). -/
def beginScan (d : DripUnit) : DripUnit :=
  { d with scan := .reference, scanNumber := d.scanNumber + 1, counter := some 0, timeBase := some 0,
           trefBefore := d.tref, refFaultsBefore := d.refFaults }

/-- An urgent trigger: starts a scan in IDLE, sets rescan-pending during a scan (R84). -/
def urgentTrigger (s : State) : State :=
  s.mapDsu fun d => if d.scan = .idle then beginScan d else { d with rescan := true }

/-- The scan timer starts, when it is stopped (R85). -/
def startScanTimer (s : State) : State :=
  s.mapDsu fun d => { d with scanTimer := some (d.scanTimer.getD (msec s.sup.cfg.scanPeriod)) }

/-! ## Station mode (R7, R13) -/

/-- The modes in which the station announces: ACTIVE, CONTAINED, ISOLATED (R41). -/
def isSending : Mode → Bool
  | .active => true
  | .contained => true
  | .isolated => true
  | .starting => false
  | .joining => false
  | .parked => false
  | .conflict => false

/-- The announce timer on entry to mode m from mode old (R41): starts on entry to a sending mode from outside, runs on
between two of them, stops on entry to any other mode. -/
def announceOnEntry (old m : Mode) (s : State) : State :=
  s.mapLnk fun l =>
    { l with announce :=
        if isSending m then (if isSending old then l.announce else some (msec s.sup.cfg.pAnn)) else none }

/-- The scan timer on entry to mode m (R85). -/
def scanTimerOnEntry (m : Mode) (s : State) : State :=
  match m with
  | .active => startScanTimer s
  | .contained => startScanTimer s
  | .isolated => startScanTimer s
  | .conflict => startScanTimer s
  | .parked => s.mapDsu fun d => { d with scanTimer := none }
  | .starting => s
  | .joining => s

/-- A change of station mode (R7): the MODE record, status-pending and the announce timer, the scan timer; a VALVE record of the same
entry comes after it (DEDUCED, unsafe: log entry 16). -/
def changeMode (m : Mode) (s : State) : State :=
  let old := s.sup.mode
  let s := handEvent (.mode m) (s.mapSup fun p => { p with mode := m })
  let s := if isSending m then setStatusPending s else s
  scanTimerOnEntry m (announceOnEntry old m s)

/-- The segment isolation count (R71). -/
def isolationCount (s : State) : Nat :=
  s.ros.entries.countP fun e => decide (some e.segment = s.sup.ownSeg ∧ e.mode = .isolated)

/-- The containment evaluation (R13). -/
def evalContainment (s : State) : State :=
  if s.sup.cfg.quorum = 0 then s
  else
    match s.sup.mode with
    | .active => if s.sup.cfg.quorum ≤ isolationCount s then changeMode .contained s else s
    | .contained => if isolationCount s < s.sup.cfg.quorum then changeMode .active s else s
    | .starting => s
    | .joining => s
    | .isolated => s
    | .parked => s
    | .conflict => s

/-- The station goes to ACTIVE, and containment is evaluated (R11, R17). -/
def goActive (s : State) : State := evalContainment (changeMode .active s)

/-! ## Isolation (R12) -/

/-- An entry to ISOLATED: the mode change, a CLOSE request, one DRIP with severity ISOLATE, the containment evaluation. -/
def enterIsolated (s : State) : State :=
  evalContainment (queueDrip .isolate (closeRequest (changeMode .isolated s)))

/-- The join ends by an isolation: the join timer stops and a PENDING dry check becomes FAILED (R12). -/
def failJoin (s : State) : State :=
  s.mapSup fun p =>
    { p with joinTimer := none, dryCheck := if p.dryCheck = .pending then .failed else p.dryCheck }

/-- What an ISOLATE action does at the supervisor, by mode (R12, R122). -/
def isolateAction (s : State) : State :=
  match s.sup.mode with
  | .active => enterIsolated s
  | .contained => enterIsolated s
  | .joining => enterIsolated (failJoin s)
  | .isolated => queueDrip .isolate (closeRequest s)
  | .conflict => closeRequest s
  | .starting => s
  | .parked => s

/-! ## Joining (R8) -/

/-- The entry to JOINING: dry check PENDING, join fault count 0, the join timer started for twice P_ann, a scan trigger,
a CLOSE request. -/
def enterJoining (s : State) : State :=
  let s := changeMode .joining s
  let s := s.mapSup fun p =>
    { p with dryCheck := .pending, joinFaults := 0, joinExpired := false,
             joinTimer := some (msec (2 * p.cfg.pAnn)) }
  closeRequest (urgentTrigger s)

/-- The dry check passes (R9, R10): PASSED, an OPEN request, and ACTIVE at once if the join timer has expired (R11). The VALVE record
of the request stands before the MODE record, an order R159 leaves open (DESIGN CHOICE, unsafe: log entry 35). -/
def passDryCheck (s : State) : State :=
  let s := openRequest (s.mapSup fun p => { p with dryCheck := .passed })
  if s.sup.joinExpired then goActive s else s

end Sys2Proof.Machine
end

