-- ==== Sys2Proof/Machine/Watch.lean ====
section
/-! DEFINITION. The watch engine (chapter 7): samples, comparisons, counting, firing, arming, windows, leaving FIRED, and
the command WINDOW_EXPIRY. -/

namespace Sys2Proof.Machine

/-- The modes in which the watch engine evaluates units (R106). -/
def isEvaluating : Mode → Bool
  | .joining => true
  | .active => true
  | .contained => true
  | .isolated => true
  | .conflict => true
  | .starting => false
  | .parked => false

/-- A value against a unit's comparison and thresholds (R108). -/
def meetsComparison (c : UnitConfig) (v : Int) : Bool :=
  match c.comparison with
  | .above => decide (c.high ≤ v)
  | .below => decide (v ≤ c.low)
  | .outside => decide (c.high ≤ v) || decide (v ≤ c.low)
  | .inside => decide (c.low < v) && decide (v < c.high)

/-- A sample of the unit's source qualifies: every PEER_DRIP sample does (R107), any other when it meets the comparison. -/
def qualifies (c : UnitConfig) (v : Int) : Bool :=
  match c.source with
  | .peerDrip => true
  | .none => meetsComparison c v
  | .zone _ => meetsComparison c v
  | .returnTemp => meetsComparison c v
  | .supplyTemp => meetsComparison c v
  | .diffPressure => meetsComparison c v
  | .flowExcess => meetsComparison c v

/-- Update unit u. -/
def mapUnit (u : Fin 8) (f : WatchUnit → WatchUnit) (s : State) : State :=
  s.mapWch fun w => { w with units := w.units.set u (f w.units[u]) }

/-- The window timer of a unit with this window, started afresh: none for a window of 0 (R116). -/
def freshWindow (c : UnitConfig) : Option Nat := if c.window = 0 then none else some (msec c.window)

/-- An arming event reaches a dependent unit (R114): DISARMED becomes ARMED, ARMED has its window restarted, FIRED ignores
it. -/
def armUnit (c : UnitConfig) (w : WatchUnit) : WatchUnit :=
  match w.status with
  | .disarmed => { w with status := .armed, count := 0, window := freshWindow c }
  | .armed => { w with window := if c.window = 0 then w.window else freshWindow c }
  | .fired => w

/-- Arm, in ascending number, every unit whose arming is the event's (R114, R115). -/
def armDependants (event : Arming) (s : State) : State :=
  allUnits.foldl
    (fun s u =>
      if s.sup.cfg.units[u].arming = event then mapUnit u (armUnit s.sup.cfg.units[u]) s else s) s

/-- Steps 1 to 3 of a firing (R111): the unit FIRED with its counter at N, the UNIT_FIRED record, WATCH_FIRED. -/
def markFired (u : Fin 8) (s : State) : State :=
  let n := s.sup.cfg.units[u].countN
  let s := mapUnit u (fun w => { w with status := .fired, count := n, clear := 0, window := none }) s
  setWatchFired (handEvent (.unitFired u) s)

/-- Step 4 of a firing: the unit's action (R120 to R123). -/
def runAction (u : Fin 8) (s : State) : State :=
  match s.sup.cfg.units[u].action with
  | .note => s
  | .chain => s
  | .alert => if isSending s.sup.mode then queueDrip .alert s else s
  | .isolate => isolateAction (requestFreeze .isolate (some u) s)
  | .freeze => requestFreeze .freezeUnit (some u) s

/-- A firing, all five steps (R111). -/
def fireUnit (u : Fin 8) (s : State) : State :=
  armDependants (.afterUnit u) (runAction u (markFired u s))

/-- A firing by the dry check (R124): as R111, but the isolating effect at the supervisor is left for the one entry that
follows all the firings. -/
def fireInDryCheck (u : Fin 8) (s : State) : State :=
  armDependants (.afterUnit u) (requestFreeze .isolate (some u) (markFired u s))

/-- A unit leaves FIRED (R119). -/
def leaveFired (u : Fin 8) (s : State) : State :=
  let c := s.sup.cfg.units[u]
  let s := mapUnit u
    (fun w => { w with status := if c.arming = .always then .armed else .disarmed, count := 0, clear := 0,
                       window := none }) s
  reevalWatchFired (handEvent (.unitCleared u) s)

/-- An ARMED unit counts a sample (R110). -/
def countSample (u : Fin 8) (v : Int) (s : State) : State :=
  let c := s.sup.cfg.units[u]
  if qualifies c v then
    if c.countN ≤ s.wch.units[u].count + 1 then fireUnit u s
    else mapUnit u (fun w => { w with count := w.count + 1 }) s
  else
    match c.countMode with
    | .consecutive => mapUnit u (fun w => { w with count := 0 }) s
    | .cumulative => s

/-- A FIRED unit handles a sample (R117, R118). -/
def clearSample (u : Fin 8) (v : Int) (s : State) : State :=
  let c := s.sup.cfg.units[u]
  match c.latch with
  | .latched => s
  | .selfClear =>
    if qualifies c v then mapUnit u (fun w => { w with clear := 0 }) s
    else if c.clearCount ≤ s.wch.units[u].clear + 1 then leaveFired u s
    else mapUnit u (fun w => { w with clear := w.clear + 1 }) s

/-- One unit takes a sample, acting by the state it held when the sample arrived (R109). -/
def unitTakesSample (atArrival : UnitStatus) (u : Fin 8) (v : Int) (s : State) : State :=
  let s := mapUnit u (fun w => { w with last := some v }) s
  match atArrival with
  | .disarmed => s
  | .armed => countSample u v s
  | .fired => clearSample u v s

/-- A sample reaches every unit of its source in ascending number (R109); in STARTING and PARKED it is disregarded (R106). -/
def deliverSample (src : Source) (v : Int) (s : State) : State :=
  if isEvaluating s.sup.mode then
    let arrival := s.wch.units
    allUnits.foldl
      (fun t u => if t.sup.cfg.units[u].source = src then unitTakesSample arrival[u].status u v t else t) s
  else s

/-- A peer-drip arrival at the watch engine (R115): first an arming event, then a sample of value the source address. -/
def watchPeerDrip (src : Address) (s : State) : State :=
  if isEvaluating s.sup.mode then deliverSample .peerDrip src.toNat (armDependants .afterPeerDrip s) else s

/-- Every FIRED unit that the command returns leaves FIRED, in ascending number (R16, R17). -/
def leaveFiredWhere (returns : Action → Bool) (s : State) : State :=
  allUnits.foldl
    (fun s u => if isFired s u && returns s.sup.cfg.units[u].action then leaveFired u s else s) s

/-- A FIRED ISOLATE unit holds RELEASE back (R17, R126): its source carries a measured value, and its last value still meets
its comparison. -/
def holdsReleaseBack (s : State) (u : Fin 8) : Bool :=
  let c := s.sup.cfg.units[u]
  isFiredIsolate s u && decide (c.source ≠ .peerDrip ∧ c.source ≠ .flowExcess) &&
    match s.wch.units[u].last with
    | some v => meetsComparison c v
    | none => false

/-! ## WINDOW_EXPIRY (R116) -/

/-- The expiry of a unit's window disarms it and clears its count. The window runs in ARMED, and is suspended in PARKED,
with no time left as well (R116, R106; DESIGN CHOICE, unsafe: log entry 43). -/
def windowExpiry (u : Fin 8) (s : State) : State :=
  if s.wch.units[u].status = .armed ∧ s.wch.units[u].window.isSome ∧ s.sup.mode ≠ .parked then
    mapUnit u (fun w => { w with status := .disarmed, count := 0, window := none }) s
  else s

/-- WINDOW_EXPIRY. -/
def execWindowExpiry (u : Fin 8) (s : State) : Host.Outcome State Fault Refusal := .next (windowExpiry u s)

end Sys2Proof.Machine
end

