-- ==== Sys2Proof/Machine/Share.lean ====
section
/-! DEFINITION. The share computer (chapter 8): the control step from the target demand to the duty, the flow-excess sample
and the processed-set notice; the valve drive's taking of a duty (R144); the decimation of the capture history (R160). -/

namespace Sys2Proof.Machine

/-- x limited to the range a..b (section 5.2). -/
def clampInt (x a b : Int) : Int := if x < a then a else if b < x then b else x

/-! ## Demand (R129, R130) -/

/-- The target demand Dt (R129): Dmax when the return temperature is INVALID in the set. -/
def targetDemand (c : ConfigSet) (m : MeasurementSet) : Int :=
  match m.returnValid, m.returnTemp with
  | true, some tr =>
    let e := tr - (c.tset : Int)
    clampInt ((c.dbase : Int) + ((c.kd : Int) * e).tdiv 10) c.dmin c.dmax
  | true, none => c.dmax
  | false, _ => c.dmax

/-- The own demand D: the target taken through the slew limit, then held in Dmin..Dmax (R130). -/
def slewedDemand (c : ConfigSet) (prev : Nat) (dt : Int) : Nat :=
  (clampInt (clampInt dt ((prev : Int) - c.slew) ((prev : Int) + c.slew)) c.dmin c.dmax).toNat

/-! ## Share and grant (R131 to R133) -/

/-- The peer demand sum (R70). -/
def peerDemandSum (s : State) : Nat :=
  s.ros.entries.foldl (fun acc e => if e.mode = .isolated then acc else acc + e.demand) 0

/-- The share against the row capacity (R131, R132). -/
def shareOf (c : ConfigSet) (d peerSum : Nat) : Nat :=
  let total := d + peerSum
  if total ≤ c.capacity then d else c.capacity * d / total

/-- The grant after the mode caps (R133). No step runs in the last three modes, and JOINING has no other dry-check state than PENDING
and PASSED (DEDUCED, safe: log entry 23). -/
def grantOf (c : ConfigSet) (mode : Mode) (dry : DryCheck) (share : Nat) : Nat :=
  match mode with
  | .active => share
  | .contained => min share c.gcont
  | .joining => if dry = .passed then min share c.dmin else 0
  | .isolated => 0
  | .starting => 0
  | .parked => 0
  | .conflict => 0

/-! ## Duty (R134 to R136) -/

/-- The indices k of the table's eight segments. -/
def tableSegments : List (Fin 8) := [0, 1, 2, 3, 4, 5, 6, 7]

/-- The interpolation in segment k of the valve table (R134). -/
def interpolate (c : ConfigSet) (k : Fin 8) (grant : Nat) : Nat :=
  let f0 := c.flowPoints[k.val]
  let f1 := c.flowPoints[k.val + 1]
  let u0 := c.dutyPoints[k.val]
  let u1 := c.dutyPoints[k.val + 1]
  u0 + (u1 - u0) * (grant - f0) / (f1 - f0)

/-- The base duty of a grant (R134). -/
def baseDutyOf (c : ConfigSet) (grant : Nat) : Nat :=
  if grant = 0 then 0
  else if grant ≤ c.flowPoints[0] then c.dutyPoints[0]
  else if c.flowPoints[8] ≤ grant then c.dutyPoints[8]
  else
    match tableSegments.find? fun k =>
        decide (c.flowPoints[k.val] ≤ grant ∧ grant < c.flowPoints[k.val + 1]) with
    | some k => interpolate c k grant
    | none => c.dutyPoints[8]

/-- The trim after a step (R135). -/
def trimOf (c : ConfigSet) (grant : Nat) (valve : ValveState) (m : MeasurementSet) (trim : Int) : Int :=
  if grant = 0 then 0
  else if valve = .opened ∧ m.known = true then
    let err : Int := (grant : Int) - m.flow
    let moved :=
      if (c.deadband : Int) < err then trim + c.trimStep
      else if err < -(c.deadband : Int) then trim - c.trimStep
      else trim
    clampInt moved (-(c.tmax : Int)) c.tmax
  else trim

/-- The duty (R136). -/
def dutyOf (grant base : Nat) (trim : Int) : Nat :=
  if grant = 0 then 0 else (clampInt ((base : Int) + trim) 0 1023).toNat

/-! ## The step (R128) -/

/-- The valve drive takes a duty by its state (R144). In OPENING each duty replaces the one before, so the last one is applied when the
pull-in ends, as R144 and R156 say; R136 says that of the first one sent (DESIGN CHOICE, unsafe: log entry 39). -/
def receiveDuty (duty : Nat) (s : State) : State :=
  match s.vlv.valve with
  | .opening => s.mapVlv fun d => { d with pendingDuty := duty }
  | .opened => s.mapVlv fun d => { d with pendingDuty := duty }
  | .closed => s
  | .closing => s
  | .stuck => s

/-- The figures of a processed set (R138, R158): a temperature is absent when its channel was INVALID in the set, the flow when
UNKNOWN. -/
def figuresOf (m : MeasurementSet) (sh : Share) : MeasFigures :=
  { returnTemp := if m.returnValid then m.returnTemp else none
    supplyTemp := if m.supplyValid then m.supplyTemp else none
    deltaP := m.deltaP
    flow := if m.known then some m.flow else none
    demand := sh.demand, grant := sh.grant, duty := sh.duty, trim := sh.trim }

/-- A processed-set notice at the capture history (R160). -/
def processedSet (m : MeasurementSet) (s : State) : State :=
  if s.sup.cfg.decimation ≤ s.cap.count + 1 then
    handRecord (.meas (figuresOf m s.shr)) (s.mapCap fun c => { c with count := 0 })
  else s.mapCap fun c => { c with count := c.count + 1 }

/-- The share computer's values after a step on set m, the mode, dry-check state, valve state and peer demand sum being those
at its start (R128 stages 1 to 7). -/
def stepShare (m : MeasurementSet) (s : State) : Share :=
  let c := s.sup.cfg
  let d := slewedDemand c s.shr.demand (targetDemand c m)
  let g := grantOf c s.sup.mode s.sup.dryCheck (shareOf c d (peerDemandSum s))
  let b := baseDutyOf c g
  let t := trimOf c g s.vlv.valve m s.shr.trim
  { demand := d, grant := g, baseDuty := b, trim := t, duty := dutyOf g b t }

/-- The control step (R128): the new values, the duty sent, the flow-excess sample when the valve was OPEN at the start and the
set's flow is KNOWN (R137), the processed-set notice (R138). -/
def controlStep (m : MeasurementSet) (s : State) : State :=
  let sh := stepShare m s
  let wasOpen := s.vlv.valve
  let s := receiveDuty sh.duty (s.mapShr fun _ => sh)
  let s := if wasOpen = .opened ∧ m.known = true then deliverSample .flowExcess ((m.flow : Int) - sh.grant) s else s
  processedSet m s

/-- Entry to PARKED (R139). -/
def parkShare (s : State) : State :=
  s.mapShr fun h => { h with grant := 0, baseDuty := 0, trim := 0, duty := 0 }

/-- The end of the load: the demand from the configuration set as loaded (R127). -/
def startDemand (c : ConfigSet) : Nat := (clampInt c.dbase c.dmin c.dmax).toNat

end Sys2Proof.Machine
end

