-- ==== Sys2Proof/Machine/Measure.lean ====
section
/-! DEFINITION. The measurement unit (chapter 6): the analog scan, the measurement set and its delivery, the flow meter; the
commands ACQUISITION_TIMER_EXPIRY, CONVERSION_END, FLOW_RISING_EDGE and NO_FLOW. -/

namespace Sys2Proof.Machine

/-! ## Analog acquisition (R91 to R95) -/

/-- The acquisition timer expires: its next period starts, and an analog scan starts in IDLE (R91, R92). An expiry during a scan,
which the part never sees, only starts the next period (DESIGN CHOICE, safe: log entry 17). -/
def acquisitionTimerExpiry (s : State) : State :=
  match s.msu.acqTimer with
  | some _ =>
    s.mapMsu fun m =>
      let m := { m with acqTimer := some (msec 100) }
      match m.adc with
      | .idle => { m with adc := .converting 0, codes := [] }
      | .converting _ => m
  | none => s

/-- A code in 16..4079 is valid (R93). -/
def codeValid (code : BitVec 12) : Bool := decide (16 ≤ code.toNat ∧ code.toNat ≤ 4079)

/-- The engineering value of a valid code (R94). -/
def scaleCode (a : AnalogScale) (code : BitVec 12) : Int := a.low + (a.high - a.low) * code.toNat / 4095

/-- One channel at scan completion (R93): an invalid code leaves the value held. -/
def takeCode (a : AnalogScale) (code : BitVec 12) (ch : Channel) : Channel :=
  if codeValid code then { value := some (scaleCode a code), valid := true, fault := false }
  else { ch with valid := false, fault := true }

/-- ΔP of channels 2 and 3 after a scan (R95). -/
def deltaPOf (supply return' : Channel) : Option Int :=
  match supply.valid && return'.valid, supply.value, return'.value with
  | true, some a, some b => some (clampInt (a - b) (-32768) 32767)
  | _, _, _ => none

/-- All four codes of a scan applied together (R92 to R95). -/
def applyCodes (c : ConfigSet) (m : Measure) (codes : List (BitVec 12)) : Measure :=
  let ch (k : Fin 4) : Channel := takeCode c.analog[k] (codes.getD k.val 0) m.chans[k]
  { m with adc := .idle, codes := [], chans := #v[ch 0, ch 1, ch 2, ch 3], deltaP := deltaPOf (ch 2) (ch 3) }

/-- The measurement set of a completed scan (R96). -/
def measurementSetOf (s : State) : MeasurementSet :=
  let m := s.msu
  { supplyTemp := m.chans[0].value, supplyValid := m.chans[0].valid,
    returnTemp := m.chans[1].value, returnValid := m.chans[1].valid,
    deltaP := m.deltaP, flow := m.flow, known := m.known, time := s.clk.ms }

/-- A sample that may be absent (R98). -/
def deliverIf (src : Source) (valid : Bool) (v : Option Int) (s : State) : State :=
  match valid, v with
  | true, some x => deliverSample src x s
  | true, none => s
  | false, _ => s

/-- The samples the watch engine takes from a set, in the order in which R98 names them (DEDUCED, unsafe: log entry 15). -/
def deliverSetSamples (m : MeasurementSet) (s : State) : State :=
  deliverIf .diffPressure true m.deltaP
    (deliverIf .returnTemp m.returnValid m.returnTemp
      (deliverIf .supplyTemp m.supplyValid m.supplyTemp s))

/-- The modes in which a control step runs (R97, R128). -/
def runsControlStep : Mode → Bool
  | .joining => true
  | .active => true
  | .contained => true
  | .isolated => true
  | .starting => false
  | .parked => false
  | .conflict => false

/-- Delivery of a measurement set, in the order of R97. -/
def deliverSet (m : MeasurementSet) (s : State) : State :=
  let s := deliverSetSamples m (reevalSensorFault s)
  if runsControlStep s.sup.mode then controlStep m s else processedSet m s

/-- A conversion ends (R92): the code is kept aside; after channel 3 the scan completes and the set is delivered. -/
def conversionEnd (code : BitVec 12) (s : State) : State :=
  match s.msu.adc with
  | .idle => s
  | .converting ch =>
    let codes := s.msu.codes ++ [code]
    if ch.val < 3 then s.mapMsu fun m => { m with adc := .converting (ch + 1), codes := codes }
    else
      let s := s.mapMsu fun m => applyCodes s.sup.cfg m codes
      updateAttn (deliverSet (measurementSetOf s) s)

/-! ## Flow meter (R99 to R102) -/

/-- The middle one of three periods (R101). -/
def medianOf (a b c : Nat) : Nat := max (min a b) (min (max a b) c)

/-- The period used for the flow: the median of three, otherwise the newest (R101). -/
def flowPeriod : List Nat → Nat
  | [a, b, c] => medianOf a b c
  | [_, b] => b
  | [a] => a
  | _ => 0

/-- The flow of a period (R101). -/
def flowOf (k pf : Nat) : Nat := min (600000000 / (pf * k)) 2000

/-- A period joins the window, which holds at most 3 (R100). -/
def pushPeriod (p : Nat) (w : List Nat) : List Nat := if w.length < 3 then w ++ [p] else w.tail ++ [p]

/-- The period counter at an edge: what the model has counted, and the further ticks (DESIGN CHOICE, safe: log entry 8). -/
def periodAtEdge (m : Measure) (ticks : Nat) : Nat := m.period.getD 0 + ticks

/-- A rising edge at FLOW (R99, R100). Edges in STARTING are not taken; an edge while the counter still holds 0 is ignored; the
counter cannot have passed 500,000 (R102). -/
def flowRisingEdge (ticks : Nat) (s : State) : State :=
  if s.sup.mode = .starting then s
  else
    match s.msu.edge with
    | .awaitFirst => s.mapMsu fun m => { m with edge := .timing, period := some 0 }
    | .timing =>
      let p := periodAtEdge s.msu ticks
      if p = 0 ∨ 500000 < p then s
      else
        s.mapMsu fun m =>
          let w := pushPeriod p m.window
          { m with window := w, flow := flowOf s.sup.cfg.kFactor (flowPeriod w), known := true, period := some 0 }

/-- The period counter reaches 500,000 µs in TIMING (R102). -/
def noFlow (s : State) : State :=
  match s.msu.edge with
  | .timing =>
    s.mapMsu fun m => { m with flow := 0, known := true, window := [], period := none, edge := .awaitFirst }
  | .awaitFirst => s

/-! ## The commands -/

/-- ACQUISITION_TIMER_EXPIRY (R91). -/
def execAcquisitionTimerExpiry (s : State) : Host.Outcome State Fault Refusal := .next (acquisitionTimerExpiry s)

/-- CONVERSION_END (R92). -/
def execConversionEnd (code : BitVec 12) (s : State) : Host.Outcome State Fault Refusal := .next (conversionEnd code s)

/-- FLOW_RISING_EDGE (R100). -/
def execFlowRisingEdge (ticks : Nat) (s : State) : Host.Outcome State Fault Refusal := .next (flowRisingEdge ticks s)

/-- NO_FLOW (R102). -/
def execNoFlow (s : State) : Host.Outcome State Fault Refusal := .next (noFlow s)

end Sys2Proof.Machine
end

