-- ==== Sys2Proof/Machine/Drip.lean ====
section
/-! DEFINITION. The drip sensing unit (chapter 5) and the dry check that its scans resolve (R9, R10, R124): the commands
SCAN_TIMER_EXPIRY, REFERENCE_PHASE_END, REFERENCE_FAULT, SENSOR_PHASE_END and COUNTER_OVERFLOW. -/

namespace Sys2Proof.Machine

/-! ## Triggers (R84, R85) -/

/-- A scan-timer expiry as a trigger: starts a scan in IDLE, dropped during a scan. -/
def timerTrigger (s : State) : State :=
  s.mapDsu fun d => if d.scan = .idle then beginScan d else d

/-- A peer-drip arrival as a trigger: urgent, disregarded in STARTING and PARKED (R84, R86). -/
def dripPeerDrip (s : State) : State :=
  if isEvaluating s.sup.mode then urgentTrigger s else s

/-- The scan timer expires: it starts its next period, and triggers a scan (R85). -/
def scanTimerExpiry (s : State) : State :=
  match s.dsu.scanTimer with
  | some _ => timerTrigger (s.mapDsu fun d => { d with scanTimer := some (msec s.sup.cfg.scanPeriod) })
  | none => s

/-! ## The readings (R79 to R82) -/

/-- The conductance index of a count (R79). -/
def conductanceIndex (ns m : Nat) : Nat := min (ns * 1000 / m) 65535

/-- The reading of a phase that ended by the time base: NORMAL or OPEN (R80, R81). -/
def countedReading (s : State) (z : Fin 4) (ns : Nat) : ZoneReading :=
  let g := conductanceIndex ns s.sup.cfg.mCycles
  { zone := z, ns := ns, index := g, state := if g < s.sup.cfg.openThreshold then .openTape else .normal,
    scan := s.dsu.scanNumber, time := s.clk.ms }

/-- The reading of a phase that overflowed: SHORT (R78, R80). -/
def shortReading (s : State) (z : Fin 4) : ZoneReading :=
  { zone := z, ns := 1048575, index := 65535, state := .short, scan := s.dsu.scanNumber, time := s.clk.ms }

/-- Delivery of a zone reading, in the four steps of R82. -/
def deliverReading (r : ZoneReading) (s : State) : State :=
  let s := s.mapDsu fun d => { d with latest := d.latest.set r.zone (some r) }
  let s := handRecord (.zone r.zone r.index r.state r.scan) s
  let s := deliverSample (.zone r.zone) r.index s
  reevalSensorFault s

/-! ## The dry check (R9, R124) -/

/-- This scan's reading of zone z: the latest reading, when the zone is enabled and the reading carries the number of the
scan. -/
def scanReading (s : State) (z : Fin 4) : Option ZoneReading :=
  match s.dsu.latest[z] with
  | some r =>
    if s.sup.cfg.startZone.val ≤ z.val ∧ z.val ≤ s.sup.cfg.endZone.val ∧ r.scan = s.dsu.scanNumber then some r
    else none
  | none => none

/-- Unit u qualifies in the dry check: armed ALWAYS, action ISOLATE, a zone source whose reading of this scan meets its
comparison. -/
def qualifiesInDryCheck (s : State) (u : Fin 8) : Bool :=
  let c := s.sup.cfg.units[u]
  decide (c.arming = .always ∧ c.action = .isolate) &&
    match c.source with
    | .zone z =>
      match scanReading s z with
      | some r => meetsComparison c r.index
      | none => false
    | .none => false
    | .returnTemp => false
    | .supplyTemp => false
    | .diffPressure => false
    | .flowExcess => false
    | .peerDrip => false

/-- The dry check fails: FAILED, the join timer stopped (R9, R10). -/
def failDryCheck (s : State) : State :=
  s.mapSup fun p => { p with dryCheck := .failed, joinTimer := none }

/-- Fire, in ascending number, every qualifying unit that is not already FIRED (R124). -/
def fireDryCheckUnits (units : List (Fin 8)) (s : State) : State :=
  units.foldl (fun s u => if isFired s u then s else fireInDryCheck u s) s

/-- The resolution of the dry check on a good scan (R9): passed when no unit qualifies and no ISOLATE unit is FIRED; failed
otherwise, with the firings and one entry to ISOLATED. -/
def resolveDryCheck (s : State) : State :=
  let units := allUnits.filter (qualifiesInDryCheck s)
  if units.isEmpty && !allUnits.any (isFiredIsolate s) then passDryCheck s
  else enterIsolated (fireDryCheckUnits units (failDryCheck s))

/-- A dry check is waiting: JOINING with the dry check PENDING. -/
def dryCheckWaits (s : State) : Bool := decide (s.sup.mode = .joining ∧ s.sup.dryCheck = .pending)

/-! ## The end of a scan (R83) -/

/-- The end of a scan by completion or by a reference fault: IDLE, or the rescan at once; in JOINING the scan timer starts if
it is stopped (R83, R85). -/
def endScan (s : State) : State :=
  let s := s.mapDsu fun d =>
    if d.rescan then beginScan { d with rescan := false }
    else { d with scan := .idle, counter := none, timeBase := none }
  if s.sup.mode = .joining then startScanTimer s else s

/-- A completed scan: the supervisor is told, and resolves a waiting dry check; then the scan ends (R83). -/
def completeScan (s : State) : State :=
  endScan (if dryCheckWaits s then resolveDryCheck s else s)

/-- The sensor phase of zone z starts: the time base loaded with Tref, the counter at 0 (R77). -/
def startSensorPhase (z : Fin 4) (d : DripUnit) : DripUnit :=
  { d with scan := .sensor z, counter := some 0, timeBase := d.tref }

/-- The sensor phase of zone z has delivered its reading: the next zone, or the end of the scan (R77). -/
def afterSensorPhase (z : Fin 4) (s : State) : State :=
  if z.val < s.sup.cfg.endZone.val then s.mapDsu (startSensorPhase (z + 1)) else completeScan s

/-! ## The phases (R75 to R78) -/

/-- The M-th reference cycle completes while the time base is still below 1,048,575 (R75): Tref, the fault count 0, the
join-degrade contribution ended, SENSOR_FAULT re-evaluated, the first sensor phase started. -/
def referencePhaseEnd (ticks : Nat) (s : State) : State :=
  let tref := s.dsu.timeBase.getD 0 + ticks
  if s.dsu.scan = .reference ∧ 1 ≤ tref ∧ tref < 1048575 then
    let s := s.mapDsu fun d => { d with tref := some tref, refFaults := 0 }
    let s := reevalSensorFault (s.mapSup fun p => { p with joinDegrade := false })
    updateAttn (s.mapDsu (startSensorPhase s.sup.cfg.startZone))
  else s

/-- The supervisor is told of a reference fault with the dry check waiting (R10): the join fault count rises; at 3 the
contribution is set, and the check passes degraded, or fails with the FIRED ISOLATE units taken as one isolation. -/
def joinFault (s : State) : State :=
  let s := s.mapSup fun p => { p with joinFaults := p.joinFaults + 1 }
  if s.sup.joinFaults < 3 then s
  else
    let s := s.mapSup fun p => { p with joinDegrade := true }
    if allUnits.any (isFiredIsolate s) then enterIsolated (failDryCheck s) else passDryCheck s

/-- A reference fault, in the order of R76's steps: the fault count, the REF_FAULT record, the supervisor, the end of the scan; then the
retry trigger of R10 where the join still waits (DEDUCED, unsafe: log entry 18). -/
def referenceFault (s : State) : State :=
  if s.dsu.scan = .reference then
    let s := s.mapDsu fun d => { d with refFaults := min (d.refFaults + 1) 255 }
    let s := handEvent .refFault s
    let waits := dryCheckWaits s
    let s := reevalSensorFault (if waits then joinFault s else s)
    let s := endScan s
    updateAttn (if waits && dryCheckWaits s then urgentTrigger s else s)
  else s

/-- The time base reaches 0 in SENSOR(z) (R77): the reading of the counter's value is formed and delivered, and the scan goes
on. The counter has at most 1,048,575 whole cycles then (R78). -/
def sensorPhaseEnd (cycles : Nat) (s : State) : State :=
  match s.dsu.scan with
  | .sensor z =>
    let ns := s.dsu.counter.getD 0 + cycles
    if ns ≤ 1048575 then updateAttn (afterSensorPhase z (deliverReading (countedReading s z ns) s)) else s
  | .idle => s
  | .reference => s

/-- The measurement counter of SENSOR(z) reaches 1,048,576 (R78): the phase ends at once with a SHORT reading. -/
def counterOverflow (s : State) : State :=
  match s.dsu.scan with
  | .sensor z => updateAttn (afterSensorPhase z (deliverReading (shortReading s z) s))
  | .idle => s
  | .reference => s

/-- Tref and the reference-fault count as they stood before the scan in progress; in IDLE they stay (R87). -/
def restoreBefore (d : DripUnit) : DripUnit :=
  if d.scan = .idle then d else { d with tref := d.trefBefore, refFaults := d.refFaultsBefore }

/-- An accepted PARK aborts the scan (R87). In SENSOR(z) the scan's own reference phase has replaced Tref and the fault count (R75);
R87 has both keep the values held before the scan, and is followed to the letter: they return, and the supervisor re-evaluates
SENSOR_FAULT on the changed count (R19, R88) (DESIGN CHOICE, unsafe: log entry 33). -/
def abortScan (s : State) : State :=
  reevalSensorFault (s.mapDsu fun d =>
    { restoreBefore d with scan := .idle, rescan := false, scanTimer := none, counter := none, timeBase := none })

/-! ## The commands -/

/-- SCAN_TIMER_EXPIRY (R85). -/
def execScanTimerExpiry (s : State) : Host.Outcome State Fault Refusal := .next (scanTimerExpiry s)

/-- REFERENCE_PHASE_END (R75). -/
def execReferencePhaseEnd (ticks : Nat) (s : State) : Host.Outcome State Fault Refusal :=
  .next (referencePhaseEnd ticks s)

/-- REFERENCE_FAULT (R76). -/
def execReferenceFault (s : State) : Host.Outcome State Fault Refusal := .next (referenceFault s)

/-- SENSOR_PHASE_END (R77). -/
def execSensorPhaseEnd (cycles : Nat) (s : State) : Host.Outcome State Fault Refusal :=
  .next (sensorPhaseEnd cycles s)

/-- COUNTER_OVERFLOW (R78). -/
def execCounterOverflow (s : State) : Host.Outcome State Fault Refusal := .next (counterOverflow s)

end Sys2Proof.Machine
end

