-- ==== Sys2Proof/WellFormed.lean ====
section
/-! DEFINITION. Well-formed commands: the operands the hardware can present. Every other operand is held inside its
range by its type (an address has 5 bits, a converter code 12). -/

namespace Sys2Proof

/-- The payload length a frame's second header byte announces (R175). -/
def frameLengthField (bytes : List Byte) : Nat := (bytes.getD 1 0).toNat % 16

/-- The operands the hardware can present with each command:
* LOAD_END brings the 222 bytes of the transfer (R2);
* LENGTH_ERROR is about a length field of 9..15 (R29);
* GOOD_FRAME brings 3 + L bytes, L in 0..8 being the frame's own length field (R29);
* REFERENCE_PHASE_END brings at most 1,048,574 ticks of the time base (R75);
* SENSOR_PHASE_END brings at most 1,048,575 cycles (R77);
* FLOW_RISING_EDGE brings at most 500,000 ticks of the period counter (R100). -/
def Instr.wellFormed : Instr → Bool
  | .loadEnd image => image.length == 222
  | .lengthError len => decide (9 ≤ len.toNat)
  | .goodFrame bytes =>
      decide (frameLengthField bytes ≤ 8) && bytes.length == 3 + frameLengthField bytes
  | .referencePhaseEnd ticks => decide (ticks ≤ 1048574)
  | .sensorPhaseEnd cycles => decide (cycles ≤ 1048575)
  | .flowRisingEdge ticks => decide (ticks ≤ 500000)
  | .reset | .resetRelease _ _ | .joinTimerExpiry | .announceTimerExpiry | .holdoffExpiry | .attemptStart
  | .startEdge _ | .quiet | .lineStuck | .gapTimeout | .frameError _ | .lostArbitration _ | .bitError _
  | .entryStale _ | .entryRemoval _ | .scanTimerExpiry | .referenceFault | .counterOverflow
  | .acquisitionTimerExpiry | .conversionEnd _ | .noFlow | .windowExpiry _ | .periodStart | .pullInExpiry
  | .strokeTimerExpiry | .ident | .station | .zones | .watch _ | .roster _ | .captureInfo | .capture _
  | .release | .acknowledge | .scan | .freeze | .resume | .park | .unpark | .badRequest | .serviceRead _
  | .cellSamplePoint | .rowFallingEdge _ | .rowRisingEdge _ | .transmitCellEdge | .driveRelease => true

end Sys2Proof
end

