-- ==== Sys2Proof/Machine/Operands.lean ====
section
/-! DEFINITION. Reading the commands' operands: pulses and the receive filter (R23), the bytes of a frame on the row line
(R27, R30, R175), and the cells they are sent in. -/

namespace Sys2Proof.Machine

/-! ## Pulses -/

/-- How long a new level of the row line has held, µs, when the receiver takes the change into account: 2 with the receive filter on, 0
with it off (R23). An edge command is that moment (DESIGN CHOICE, safe: log entry 7). -/
def filterDelay (c : ConfigSet) : Nat := if c.rxFilter then 2 else 0

/-- The receive filter (R23): with the filter on, a level counts only when it holds for 2 µs; with it off, always. The operand is in
whole µs (DESIGN CHOICE, safe: log entry 7). -/
def edgeTaken (c : ConfigSet) (held : Nat) : Bool := decide (filterDelay c ≤ held)

/-! ## The check (R30) -/

/-- One shift of the CRC-8 register, generator 0x1D. -/
def crcShift (c : Byte) : Byte := if c.msb then (c <<< 1) ^^^ 0x1D else c <<< 1

/-- The register run over one byte, most significant bit first. -/
def crcByte (c b : Byte) : Byte :=
  crcShift (crcShift (crcShift (crcShift (crcShift (crcShift (crcShift (crcShift (c ^^^ b))))))))

/-- The check over a list of bytes; the register starts at 0xFF. -/
def crc (bytes : List Byte) : Byte := bytes.foldl crcByte 0xFF

/-! ## The bytes of a frame (R175) -/

/-- Header byte 0: class in bits 7..5, source address in bits 4..0. -/
def headerByte0 (cls : BitVec 3) (src : Address) : Byte := cls ++ src

/-- Header byte 1: kind in bits 7..4, payload length in bits 3..0. -/
def headerByte1 (kind len : BitVec 4) : Byte := kind ++ len

/-- A whole frame: header, payload and check byte. -/
def frameBytes (cls : BitVec 3) (src : Address) (kind : BitVec 4) (payload : List Byte) : List Byte :=
  let body := headerByte0 cls src :: headerByte1 kind (BitVec.ofNat 4 payload.length) :: payload
  body ++ [crc body]

/-- A received frame as handed to the link controller (R30). -/
structure RxFrame where
  cls : BitVec 3
  src : Address
  kind : BitVec 4
  len : BitVec 4
  payload : List Byte
  deriving DecidableEq, Repr

/-- The fields of a frame's bytes. -/
def rxFrameOf (bytes : List Byte) : RxFrame :=
  let h0 := bytes.getD 0 0
  let h1 := bytes.getD 1 0
  { cls := h0.extractLsb' 5 3, src := h0.extractLsb' 0 5, kind := h1.extractLsb' 4 4, len := h1.extractLsb' 0 4,
    payload := (bytes.drop 2).dropLast }

/-! ## Bit cells (R27) -/

/-- The value of cell c, 0..9, of byte b: start bit 0, eight data bits with the most significant first, stop bit 1. -/
def byteCell (b : Byte) (c : Nat) : Bool :=
  if c = 0 then false else if c = 9 then true else b.getMsbD (c - 1)

/-- The value of cell c of byte k of a frame. -/
def frameCell (bytes : List Byte) (k c : Nat) : Bool := byteCell (bytes.getD k 0) c

/-- The arbitration cells: the data bits of the two header bytes (R36). -/
def isArbitrationCell (k c : Nat) : Bool := decide (k < 2) && decide (1 ≤ c) && decide (c ≤ 8)

/-! ## Payload fields with a range (R58) -/

/-- A 16-bit payload field. -/
def payloadU16 (p : List Byte) (i : Nat) : Nat := 256 * (p.getD i 0).toNat + (p.getD (i + 1) 0).toNat

/-- Mode code of a STATUS: any code other than 3 and 4 is held as ACTIVE. -/
def peerModeOf (b : Byte) : PeerMode := if b = 3 then .contained else if b = 4 then .isolated else .active

/-- A flow or a demand of a STATUS: above 2000 is held as 2000. -/
def heldFlow (n : Nat) : Nat := min n 2000

/-- The announce period of a STATUS in ms: units below 2 are held as 100 ms, above 20 as 1000 ms. -/
def heldPeriod (units : Nat) : Nat := 50 * min (max units 2) 20

/-- Severity of a DRIP: 2 is ISOLATE, every other value ALERT. -/
def heldSeverity (b : Byte) : Severity := if b = 2 then .isolate else .alert

/-- A segment byte of a DRIP or CLEAR: none above 15. -/
def heldSegment (b : Byte) : Option Segment := if b.toNat ≤ 15 then some (b.extractLsb' 0 4) else none

end Sys2Proof.Machine
end

