-- ==== Sys2Proof/Machine/Roster.lean ====
section
/-! DEFINITION. The peer roster (chapter 4): taking a frame, admission, updates, ageing, the change notice, the peer-drip arrival;
the commands ENTRY_STALE and ENTRY_REMOVAL. -/

namespace Sys2Proof.Machine

/-! ## Entries (R56) -/

/-- The entry of an address. -/
def findEntry (addr : Address) (es : List Entry) : Option Entry := es.find? fun e => decide (e.address = addr)

/-- Change the entry of an address. -/
def changeEntry (addr : Address) (f : Entry → Entry) (es : List Entry) : List Entry :=
  es.map fun e => if e.address = addr then f e else e

/-- Put a new entry in its place in address order. -/
def insertEntry (e : Entry) : List Entry → List Entry
  | [] => [e]
  | x :: xs => if e.address.toNat < x.address.toNat then e :: x :: xs else x :: insertEntry e xs

/-- Take the entry of an address out. -/
def dropEntry (addr : Address) (es : List Entry) : List Entry := es.filter fun e => decide (e.address ≠ addr)

/-- The number of entries the roster can hold. -/
def rosterCapacity : Nat := 24

/-! ## What a frame says (R58) -/

/-- A frame as the roster reads it: a DRIP or CLEAR whose segment is above 15 is taken as an unknown kind. -/
inductive PeerFrame where
  | status (seg : Segment) (mode : PeerMode) (flags : Flags) (demand flow : Nat) (zones : BitVec 4) (period : Nat)
  | drip (seg : Segment) (sev : Severity) (zones : BitVec 4)
  | clear
  | leave
  | unknown
  deriving DecidableEq, Repr

/-- Read a frame (R58). -/
def readPeerFrame (kind : BitVec 4) (p : List Byte) : PeerFrame :=
  if kind = 1 then
    .status ((p.getD 6 0).extractLsb' 4 4) (peerModeOf (p.getD 0 0)) (flagsOfByte (p.getD 1 0))
      (heldFlow (payloadU16 p 2)) (heldFlow (payloadU16 p 4)) ((p.getD 6 0).extractLsb' 0 4)
      (heldPeriod (p.getD 7 0).toNat)
  else if kind = 2 then
    match heldSegment (p.getD 0 0) with
    | some seg => .drip seg (heldSeverity (p.getD 1 0)) ((p.getD 2 0).extractLsb' 0 4)
    | none => .unknown
  else if kind = 3 then
    match heldSegment (p.getD 0 0) with
    | some _ => .clear
    | none => .unknown
  else if kind = 4 then .leave
  else .unknown

/-! ## Changes to an entry (R59, R60, R62 to R66) -/

/-- The entry is alive: silence 0, LIVE. -/
def refresh (e : Entry) : Entry := { e with silence := 0, liveness := .live }

/-- What a frame from a known peer makes of its entry; a LEAVE removes it and is not here. -/
def updatedEntry (f : PeerFrame) (e : Entry) : Entry :=
  match f with
  | .status seg mode flags demand flow zones period =>
    refresh { e with segment := seg, mode := mode, flags := flags, demand := demand, flow := flow, zones := zones,
                     period := period }
  | .drip seg sev zones =>
    refresh { e with segment := seg, zones := zones, severity := some sev,
                     mode := if sev = .isolate then .isolated else e.mode }
  | .clear => refresh { e with mode := .active, zones := 0, severity := some .none }
  | .leave => e
  | .unknown => refresh e

/-- The entry that a frame from an unknown address creates: a STATUS or a DRIP only (R59, R60). -/
def admittedEntry (ownPeriod : Nat) (addr : Address) (f : PeerFrame) : Option Entry :=
  match f with
  | .status seg mode flags demand flow zones period =>
    some { address := addr, segment := seg, mode := mode, flags := flags, demand := demand, flow := flow,
           zones := zones, period := period, liveness := .live, silence := 0, severity := none }
  | .drip seg sev zones =>
    some { address := addr, segment := seg, mode := if sev = .isolate then .isolated else .active, flags := noFlags,
           demand := 0, flow := 0, zones := zones, period := ownPeriod, liveness := .live, silence := 0,
           severity := some sev }
  | .clear => none
  | .leave => none
  | .unknown => none

/-- The change calls for a notice: mode, segment or liveness differs from before (R72). -/
def callsForNotice (before after : Entry) : Bool :=
  decide (before.mode ≠ after.mode ∨ before.segment ≠ after.segment ∨ before.liveness ≠ after.liveness)

/-- Remove an entry, by LEAVE or by ageing: ROSTER_OVERFLOW clears (R65, R68). -/
def removeEntry (addr : Address) (r : Roster) : Roster :=
  { entries := dropEntry addr r.entries, overflow := false }

/-- The roster after a frame, and whether the supervisor is sent a change notice (R59 to R66, R72). -/
def rosterTakes (ownPeriod : Nat) (addr : Address) (f : PeerFrame) (r : Roster) : Roster × Bool :=
  match findEntry addr r.entries with
  | some e =>
    if f = .leave then (removeEntry addr r, true)
    else ({ r with entries := changeEntry addr (updatedEntry f) r.entries }, callsForNotice e (updatedEntry f e))
  | none =>
    match admittedEntry ownPeriod addr f with
    | some e =>
      if r.entries.length < rosterCapacity then ({ r with entries := insertEntry e r.entries }, true)
      else ({ r with overflow := true }, false)
    | none => (r, false)

/-- A change notice: the supervisor evaluates containment (R72, R13). -/
def changeNotice (s : State) : State := evalContainment s

/-- A peer-drip arrival, delivered to the capture history, the watch engine and the drip sensing unit in that order (R69). -/
def peerDripArrival (addr : Address) (sev : Severity) (s : State) : State :=
  dripPeerDrip (watchPeerDrip addr (handEvent (.peerDrip addr sev) s))

/-- The taking of one frame: the entry, then the notice, then the peer-drip arrival of a DRIP from the own segment (R57, R69). -/
def takeFrame (addr : Address) (f : PeerFrame) (s : State) : State :=
  let out := rosterTakes s.sup.cfg.pAnn addr f s.ros
  let s := s.mapRos fun _ => out.1
  let s := if out.2 then changeNotice s else s
  match f with
  | .drip seg sev _ => if some seg = s.sup.ownSeg then peerDripArrival addr sev s else s
  | .status _ _ _ _ _ _ _ => s
  | .clear => s
  | .leave => s
  | .unknown => s

/-! ## Ageing (R67, R68) -/

/-- An entry at its STALE point: its silence is three of its periods at least (R67; DESIGN CHOICE, safe: log entry 19). -/
def staleEntry (e : Entry) : Entry :=
  { e with liveness := .stale, silence := max e.silence (msec (3 * e.period)) }

/-- The silence of a LIVE entry reaches three times its period: STALE, with a change notice (R67). -/
def entryStale (addr : Address) (s : State) : State :=
  match findEntry addr s.ros.entries with
  | some e =>
    if e.liveness = .live then
      updateAttn (changeNotice (s.mapRos fun r => { r with entries := changeEntry addr staleEntry r.entries }))
    else s
  | none => s

/-- The silence of an entry reaches eight times its period: removed, with a change notice (R68). -/
def entryRemoval (addr : Address) (s : State) : State :=
  match findEntry addr s.ros.entries with
  | some _ => updateAttn (changeNotice (s.mapRos (removeEntry addr)))
  | none => s

/-! ## The commands -/

/-- ENTRY_STALE (R67). -/
def execEntryStale (addr : Address) (s : State) : Host.Outcome State Fault Refusal := .next (entryStale addr s)

/-- ENTRY_REMOVAL (R68). -/
def execEntryRemoval (addr : Address) (s : State) : Host.Outcome State Fault Refusal := .next (entryRemoval addr s)

end Sys2Proof.Machine
end

