-- ==== Sys2Proof/Machine/LinkControl.lean ====
section
/-! DEFINITION. The link controller (chapter 3): what it offers, the composition of a STATUS, the ends of an attempt, the sorting
of a good frame, the entry to CONFLICT; the commands ANNOUNCE_TIMER_EXPIRY and HOLDOFF_EXPIRY. -/

namespace Sys2Proof.Machine

/-! ## Offers (R45, R46) -/

/-- The frame the link offers: when the link is IDLE, the head of the queue if the mode permits it, or a STATUS when the queue
is empty and status-pending is set (R45, R46). An offer stands exactly as long as this gives a frame (DEDUCED, safe: log entry
14). -/
def standingOffer (s : State) : Option TxKind :=
  if s.lnk.link = .idle then
    if isSending s.sup.mode then
      match s.lnk.queue with
      | _ :: _ => some .event
      | [] => if s.lnk.statusPending then some .status else none
    else if s.sup.mode = .parked then
      match s.lnk.queue with
      | .leave :: _ => some .event
      | .drip _ _ _ _ :: _ => none
      | .clear _ :: _ => none
      | [] => none
    else none
  else none

/-! ## Frames to send (R32 to R34, R47, R175) -/

/-- The flow as STATUS carries it: 0 while UNKNOWN (R103). -/
def statusFlow (s : State) : Nat := if s.msu.known then s.msu.flow else 0

/-- The payload of a STATUS composed at this moment (R47, R175). -/
def statusPayload (s : State) : List Byte :=
  [modeCode s.sup.mode, flagsByte (stationFlags s)] ++ be16 s.shr.demand ++ be16 (statusFlow s) ++
    [ownSegment s ++ zoneMask s, byteOf s.sup.cfg.pAnnUnits]

/-- Class, kind and payload of an event frame (R32, R175). -/
def eventParts : EventFrame → BitVec 3 × BitVec 4 × List Byte
  | .drip seg sev zones units => (0, 2, [seg.setWidth 8, severityCode sev, zones.setWidth 8, units])
  | .clear seg => (0, 3, [seg.setWidth 8])
  | .leave => (1, 4, [])

/-- All the bytes of an event frame from the own address. -/
def eventBytes (src : Address) (f : EventFrame) : List Byte :=
  frameBytes (eventParts f).1 src (eventParts f).2.1 (eventParts f).2.2

/-- The frame that an attempt puts in flight: the queue head, or a STATUS composed now (R47, R48). -/
def composeFrame (kind : TxKind) (s : State) : TxFrame :=
  match kind with
  | .event => { kind := .event, bytes := eventBytes (ownAddress s) (s.lnk.queue.headD .leave) }
  | .status => { kind := .status, bytes := frameBytes 2 (ownAddress s) 1 (statusPayload s) }

/-! ## The receiver leaves a frame (R26) -/

/-- The state matching the receiver (R39). -/
def matchReceiver : RxState → LinkState
  | .off => .off
  | .seekQuiet => .waitQuiet
  | .idle => .idle
  | .inFrame => .receiving
  | .stuck => .lineFault

/-- The receiver enters SEEK_QUIET: the frame under assembly is emptied, no frame of the station's own is in flight any more, and
the low-time measure starts if the line is already low, or runs on where it runs (R25, R26; DEDUCED, safe: log entry 12). -/
def toSeekQuiet (r : RowLine) : RowLine :=
  { r with rx := .seekQuiet, cell := none, frame := emptyAssembly, tx := none,
           lowTime := if r.lineLow then some (r.lowTime.getD 0) else r.lowTime }

/-- The link after a frame has ended: WAIT_QUIET, or HOLDOFF throughout a holdoff (R39). -/
def linkAfterFrame (l : LinkState) : LinkState := if l = .holdoff then .holdoff else .waitQuiet

/-- A reception error: the frame is discarded, the error recorded, the receiver waits for quiet (R31, R55). No STATUS is in flight
then, so the renewed mark is clear (R42). -/
def receptionError (e : LinkError) (s : State) : State :=
  (s.mapRli toSeekQuiet).mapLnk fun l => { l with lastError := e, renewed := false, link := linkAfterFrame l.link }

/-! ## The ends of an attempt (R49 to R51) -/

/-- A lost arbitration ends the attempt uncounted; the station receives the winner's frame (R50). -/
def attemptLost (s : State) : State :=
  (s.mapRli fun r => { r with tx := none }).mapLnk fun l => { l with link := .receiving, renewed := false }

/-- A BIT_ERROR ends the attempt: the count rises, and at 4 the holdoff starts (R37, R51). -/
def attemptBitError (s : State) : State :=
  let wasStatus := statusInFlight s
  let count := s.lnk.attempts + 1
  let s := s.mapRli toSeekQuiet
  if count < 4 then
    s.mapLnk fun l =>
      { l with attempts := count, lastError := .bitError, renewed := false, link := .waitQuiet }
  else
    handEvent .holdoff (s.mapLnk fun l =>
      { l with attempts := count, lastError := .bitError, renewed := false, link := .holdoff,
               holdoff := some (msec 50), statusPending := if wasStatus then false else l.statusPending })

/-- The self-echo completes the attempt (R49). -/
def attemptComplete (kind : TxKind) (s : State) : State :=
  (s.mapRli toSeekQuiet).mapLnk fun l =>
    let l := { l with link := .waitQuiet, attempts := 0 }
    match kind with
    | .event => { l with queue := l.queue.tail }
    | .status => { l with statusPending := l.statusPending && l.renewed, renewed := false }

/-! ## Conflict (R18, R53) -/

/-- A frame in flight is abandoned: nothing is driven from the next cell on, the receiver drops the frame (R38, R53). -/
def abandonAttempt (s : State) : State :=
  match s.rli.tx with
  | some _ => (s.mapRli toSeekQuiet).mapLnk fun l => { l with link := .waitQuiet }
  | none => s

/-- Entry to CONFLICT at the link controller (R53). -/
def conflictAtLink (s : State) : State :=
  let s := abandonAttempt s
  s.mapLnk fun l =>
    { l with queue := [], statusPending := false, renewed := false, attempts := 0, holdoff := none,
             link := if l.link = .holdoff then matchReceiver s.rli.rx else l.link }

/-- Entry to CONFLICT (R18): the mode change, the link controller's effects, the join timer stopped; the dry-check state stays
(DEDUCED, unsafe: log entry 20). -/
def enterConflict (s : State) : State :=
  conflictAtLink ((changeMode .conflict s).mapSup fun p => { p with joinTimer := none })

/-- An address-conflict report: taken in any mode except STARTING and, where it changes nothing, CONFLICT (R18, and section 1.3: every
mode except STARTING goes to CONFLICT). R12 names RELEASE, PARK and reset as the only ways out of ISOLATED; the model follows R18 there
(DESIGN CHOICE, unsafe: log entry 34). -/
def conflictReport (s : State) : State :=
  match s.sup.mode with
  | .starting => s
  | .conflict => s
  | .joining => enterConflict s
  | .active => enterConflict s
  | .contained => enterConflict s
  | .isolated => enterConflict s
  | .parked => enterConflict s

/-! ## Received frames (R54) -/

/-- The payload length of a known kind (R32). -/
def knownLength (kind : BitVec 4) : Option Nat :=
  if kind = 1 then some 8
  else if kind = 2 then some 4
  else if kind = 3 then some 1
  else if kind = 4 then some 0
  else none

/-- A known kind whose payload length differs from the length of that kind. -/
def wrongLength (f : RxFrame) : Bool :=
  match knownLength f.kind with
  | some n => decide (f.payload.length ≠ n)
  | none => false

/-- Sort a good frame without the self-echo mark: wrong length, own address, or a frame for the roster (R54). -/
def sortFrame (f : RxFrame) (s : State) : State :=
  if wrongLength f then s.mapLnk fun l => { l with lastError := .lengthError }
  else if some f.src = s.sup.ownAddr then conflictReport s
  else takeFrame f.src (readPeerFrame f.kind f.payload) s

/-- A good frame is handed to the link controller: a self-echo completes the attempt; any other frame is sorted, the receiver in
SEEK_QUIET and the link in WAIT_QUIET (R30, R38, R39, R54). R30 has the receiver hand the frame on and then enter SEEK_QUIET; here it
enters first, so that a link in HOLDOFF which the frame takes to CONFLICT matches SEEK_QUIET, and is in WAIT_QUIET: R30, R39 and R53 do
not say which state is matched (DESIGN CHOICE, unsafe: log entry 41). -/
def handGoodFrame (bytes : List Byte) (s : State) : State :=
  match s.rli.tx with
  | some t => attemptComplete t.kind s
  | none =>
    sortFrame (rxFrameOf bytes)
      ((s.mapRli toSeekQuiet).mapLnk fun l => { l with link := linkAfterFrame l.link })

/-! ## Timers (R41, R52) -/

/-- The announce timer expires: status-pending is set, and the next period starts at once (R41). -/
def announceTimerExpiry (s : State) : State :=
  match s.lnk.announce with
  | some _ => setStatusPending (s.mapLnk fun l => { l with announce := some (msec s.sup.cfg.pAnn) })
  | none => s

/-- The holdoff timer expires: the attempt count returns to 0, and the link takes the state matching the receiver (R52). -/
def holdoffExpiry (s : State) : State :=
  match s.lnk.holdoff with
  | some _ =>
    s.mapLnk fun l =>
      { l with attempts := 0, holdoff := none,
               link := if l.link = .holdoff then matchReceiver s.rli.rx else l.link }
  | none => s

/-! ## The commands -/

/-- ANNOUNCE_TIMER_EXPIRY (R41). -/
def execAnnounceTimerExpiry (s : State) : Host.Outcome State Fault Refusal := .next (announceTimerExpiry s)

/-- HOLDOFF_EXPIRY (R52). -/
def execHoldoffExpiry (s : State) : Host.Outcome State Fault Refusal := .next (holdoffExpiry s)

end Sys2Proof.Machine
end

