-- ==== Sys2Proof/Machine/RowLine.lean ====
section
/-! DEFINITION. The row line interface (chapter 2): edges, the quiet timer, cells, bytes, frames, transmission; the commands
ATTEMPT_START, START_EDGE, QUIET, LINE_STUCK, GAP_TIMEOUT, FRAME_ERROR, LENGTH_ERROR, GOOD_FRAME, LOST_ARBITRATION, BIT_ERROR,
CELL_SAMPLE_POINT, ROW_FALLING_EDGE, ROW_RISING_EDGE, TRANSMIT_CELL_EDGE and DRIVE_RELEASE.

The commands from GAP_TIMEOUT to BIT_ERROR name how a frame goes on the line from wherever its reception stands; a run that
samples every cell reaches the same events through CELL_SAMPLE_POINT. A command whose event the state does not admit (no frame,
the wrong sender, bytes that contradict the cells already sampled) is an event that does not occur, and changes nothing (DESIGN
CHOICE, safe: log entries 2, 3 and 9). -/

namespace Sys2Proof.Machine

/-! ## Cells and edges (R21, R22, R24, R25) -/

/-- The low time of a cell's bit, µs: 5 for a 1, 15 for a 0 (R22). -/
def lowTimeOf (bit : Bool) : Nat := if bit then 5 else 15

/-- The cell the frame stands at: byte count and cell count (R26). -/
def sentCell (t : TxFrame) (a : Assembly) : Bool := frameCell t.bytes a.taken.length a.cells

/-- A falling edge `ago` µs before, as every state but OFF takes it: the line is low, and the quiet timer and the low-time measure count
from the edge's first moment (R23 to R25). -/
def takeFall (ago : Nat) (r : RowLine) : RowLine := { r with lineLow := true, quiet := .running ago, lowTime := some ago }

/-- A new cell has begun at the edge `ago` µs before; a transmitting station drives its own pulse, which ends 5 or 15 µs after that edge
(R21, R22; where the edge is another station's, DESIGN CHOICE, unsafe: log entry 45). -/
def beginCell (ago : Nat) (r : RowLine) : RowLine :=
  { r with cell := some { age := ago, sampled := false }
           driver := match r.tx with
             | some t => some (lowTimeOf (sentCell t r.frame) - ago)
             | none => r.driver }

/-- The start edge of a frame, `ago` µs before: the receiver enters IN_FRAME with nothing assembled (R26). -/
def enterFrame (ago : Nat) (r : RowLine) : RowLine :=
  beginCell ago { takeFall ago r with rx := .inFrame, frame := emptyAssembly }

/-- The station starts or joins with the frame it offers: the frame is composed at this edge, and the link enters SENDING (R35,
R47, R48). -/
def startAttempt (ago : Nat) (kind : TxKind) (s : State) : State :=
  let t := composeFrame kind s
  (s.mapRli fun r => enterFrame ago { r with tx := some t }).mapLnk fun l => { l with link := .sending }

/-- Another station's start edge with no offer standing: the link enters RECEIVING, or stays in HOLDOFF (R39). -/
def startReceiving (ago : Nat) (s : State) : State :=
  (s.mapRli (enterFrame ago)).mapLnk fun l => { l with link := if l.link = .holdoff then .holdoff else .receiving }

/-- A falling edge taken in IDLE (R26, R35). -/
def startEdgeTaken (ago : Nat) (s : State) : State :=
  match standingOffer s with
  | some kind => startAttempt ago kind s
  | none => startReceiving ago s

/-- The frame stands at its start cell. -/
def atStartCell (a : Assembly) : Bool := a.taken.isEmpty && decide (a.cells = 0)

/-- A falling edge inside a frame: after the current cell's sample point it begins the next cell, before it belongs to the
current cell (R21). An edge that comes to a line already low is another station's that came before the station's own: the cell counts from
that earlier edge (R21), but for the start cell, where two stations that both start are aligned at the next cell only (R35; DEDUCED,
unsafe: log entry 46). -/
def fallInFrame (ago : Nat) (r : RowLine) : RowLine :=
  match r.cell with
  | some c => if c.sampled || (r.lineLow && !atStartCell r.frame) then beginCell ago (takeFall ago r) else takeFall ago r
  | none => beginCell ago (takeFall ago r)

/-- The low period is one that the station's own edge began less than `ago` µs before, in a cell not sampled yet: another station's edge
taken now came first (R21, R35; DEDUCED, unsafe: log entry 46). -/
def ownEdgeYounger (ago : Nat) (r : RowLine) : Bool :=
  decide (r.rx = .inFrame) && r.tx.isSome && (r.cell.any fun c => !c.sampled) && r.lowTime.any fun n => decide (n < ago)

/-- A falling edge on the line, by the receiver's state at the moment it takes the edge (R23, R26; DESIGN CHOICE, unsafe: log entry 44).
An edge needs a high line before it, but for one that came before the station's own edge, and a pulse that the filter lets through (R23).
In OFF it is not seen: only the level of the pin changes. START_EDGE and ROW_FALLING_EDGE both mean this (DEDUCED, safe: log entry
13). -/
def fallingEdge (held : Nat) (s : State) : State :=
  let ago := filterDelay s.sup.cfg
  if !edgeTaken s.sup.cfg held || (s.rli.lineLow && !ownEdgeYounger ago s.rli) then s
  else
    match s.rli.rx with
    | .off => s.mapRli fun r => { r with lineLow := true }
    | .idle => startEdgeTaken ago s
    | .inFrame => s.mapRli (fallInFrame ago)
    | .seekQuiet => s.mapRli (takeFall ago)
    | .stuck => s.mapRli (takeFall ago)

/-- The quiet timer at a rising edge `ago` µs before: it restarts there where its 160 µs have run out on a low line, and counts on from the
last falling edge otherwise (R23, R24). -/
def quietAtRise (ago : Nat) (q : QuietTimer) : QuietTimer := if q = .awaitRise then .running ago else q

/-- A rising edge `ago` µs before, as every state takes it: the line is high, the low-time measure stops, the quiet timer follows R24. So it does in
STUCK: a stuck line has been low for more than 160 µs, and its release restarts the timer, as R25 says; a line that falls again there
and rises within 160 µs is counted from that fall (DESIGN CHOICE between R24 and R25, unsafe: log entry 31). -/
def takeRise (ago : Nat) (r : RowLine) : RowLine :=
  { r with lineLow := false, lowTime := none, quiet := quietAtRise ago r.quiet }

/-- A rising edge on the line, at the moment the receiver takes it (R23 to R25; DESIGN CHOICE, unsafe: log entry 44). -/
def risingEdge (held : Nat) (s : State) : State :=
  if !edgeTaken s.sup.cfg held || !s.rli.lineLow then s else s.mapRli (takeRise (filterDelay s.sup.cfg))

/-- The station starts the offered frame on an idle line: its receiver is IN_FRAME at that edge (R35, R48). -/
def attemptStart (s : State) : State :=
  if s.rli.rx = .idle then
    match standingOffer s with
    | some kind => startAttempt 0 kind s
    | none => s
  else s

/-- The station's own edge: it takes a high line low, which is a falling edge; a line that another station still holds low does not
fall, and the quiet timer and the low-time measure run on (R24, R25). -/
def ownEdge (r : RowLine) : RowLine := if r.lineLow then r else takeFall 0 r

/-- The transmitter starts its next cell, provided the line has not already fallen after the current cell's sample point: the
current cell is then still the sampled one (R21). A station leaves no gap, so its cell begins on a line held low as well (DEDUCED, safe:
log entry 32). -/
def transmitCellEdge (s : State) : State :=
  match s.rli.rx, s.rli.tx, s.rli.cell with
  | .inFrame, some _, some c => if c.sampled then s.mapRli fun r => beginCell 0 (ownEdge r) else s
  | _, _, _ => s

/-- The driver releases the line at the end of its low time (R22). Whether the line then rises is for the wire: another station
may hold it. -/
def driveRelease (s : State) : State := s.mapRli fun r => { r with driver := none }

/-! ## Line conditions (R24, R25, R40) -/

/-- Quiet is reached, so the line is high and 160 µs have been counted: SEEK_QUIET to IDLE, reported as quiet; STUCK to IDLE, reported
as line recovery, which takes the link to IDLE, or to HOLDOFF while the holdoff timer runs (R24, R39, R40). The line's level and the
timer follow from the event (DEDUCED, safe: log entry 12). -/
def quietReached (s : State) : State :=
  let idle (r : RowLine) : RowLine := { r with rx := .idle, lineLow := false, lowTime := none, quiet := .running 160 }
  match s.rli.rx with
  | .seekQuiet => (s.mapRli idle).mapLnk fun l => { l with link := if l.link = .waitQuiet then .idle else l.link }
  | .stuck =>
    (s.mapRli idle).mapLnk fun l => { l with link := if l.holdoff.isSome then .holdoff else .idle }
  | .off => s
  | .idle => s
  | .inFrame => s

/-- LINE_STUCK is declared: the receiver goes to STUCK and the link to LINE_FAULT, a frame under reception is discarded (R25,
R40). The line is low and has been for more than 160 µs, so the quiet timer waits for its release (R24; DEDUCED, safe: log entry 12).
The station is never transmitting then: its frame has ended at a 1 cell (R37). -/
def lineStuck (s : State) : State :=
  let stuck : State :=
    (s.mapRli fun r => { toSeekQuiet { r with lineLow := true } with rx := .stuck, quiet := .awaitRise }).mapLnk
      fun l => { l with link := .lineFault, lastError := .lineStuck }
  if s.rli.tx.isSome then s
  else
    match s.rli.rx with
    | .seekQuiet => stuck
    | .idle => stuck
    | .inFrame => stuck
    | .off => s
    | .stuck => s

/-! ## Reception errors (R27 to R29, R31) -/

/-- A frame is being received by an ordinary receiver. -/
def receivingFrame (s : State) : Bool := decide (s.rli.rx = .inFrame) && s.rli.tx.isNone

/-- A gap of 4 cell times in an unfinished frame (R28). A transmitting station never leaves a gap (R21). -/
def gapTimeout (s : State) : State := if receivingFrame s then receptionError .gapTimeout s else s

/-- The level of the line at the sample point of a framing cell that read wrong. -/
def framingLow : FramingCell → Bool
  | .startHigh => false
  | .stopLow => true

/-- The number of a framing cell in its byte: the start cell is 0, the stop cell 9 (R27). -/
def framingCellNumber : FramingCell → Nat
  | .startHigh => 0
  | .stopLow => 9

/-- The level at which a sample point finds the line. A level that differs from the one held says that the line has had an edge since: a
high line has ended its low time, and the quiet timer takes the edge as R24 says (DEDUCED, safe: log entry 12). -/
def setLevel (low : Bool) (r : RowLine) : RowLine :=
  { r with lineLow := low, lowTime := if low then some (r.lowTime.getD 0) else none,
           quiet := if r.lineLow = low then r.quiet else if low then .running 0 else quietAtRise 0 r.quiet }

/-- The current cell is not sampled yet. -/
def unsampled (r : RowLine) : Bool := r.cell.any fun c => !c.sampled

/-- The current cell, not sampled yet, is cell number cells of the byte after taken bytes. -/
def standsAt (taken cells : Nat) (r : RowLine) : Bool :=
  unsampled r && decide (r.frame.taken.length = taken) && decide (r.frame.cells = cells)

/-- The line at the sample point of a cell that has begun with a falling edge 10 µs before, when nothing else was taken of the cell: the
quiet timer and the low-time measure count from that edge (R22, R24, R25). -/
def laterCell (r : RowLine) : RowLine := takeFall 10 r

/-- The line at the sample point that a frame-level command names: the current cell's, whose edge has been taken, or a later cell's
(DEDUCED, safe: log entry 40). -/
def sampledLine (current low : Bool) (r : RowLine) : RowLine := setLevel low (if current then r else laterCell r)

/-- A start cell that reads 1 or a stop cell that reads 0 (R27). A transmitting station meets a BIT_ERROR there (R37). -/
def frameError (cell : FramingCell) (s : State) : State :=
  let current := unsampled s.rli && decide (s.rli.frame.cells = framingCellNumber cell)
  if receivingFrame s then receptionError .frameError (s.mapRli (sampledLine current (framingLow cell))) else s

/-- The length bits already sampled agree with a length field: of c cells of the second header byte the last c - 5 are its first
bits. -/
def lengthAgrees (len : BitVec 4) (a : Assembly) : Bool :=
  decide (a.taken.length = 0) ||
    (decide (a.taken.length = 1) &&
      decide (a.shift.toNat % 2 ^ (a.cells - 5) = len.toNat / 2 ^ (4 - (a.cells - 5))))

/-- A payload length field of 9..15, found at the second header byte's stop cell (R29). A field that contradicts what has been
sampled is none of the frame's (DESIGN CHOICE, safe: log entries 2 and 9). -/
def lengthError (len : BitVec 4) (s : State) : State :=
  if receivingFrame s && decide (9 ≤ len.toNat) && lengthAgrees len s.rli.frame then
    receptionError .lengthError (s.mapRli (sampledLine (standsAt 1 9 s.rli) false))
  else s

/-! ## A frame run to its end (R30, R38) -/

/-- The cells already sampled agree with the frame's bytes: the bytes taken are its first bytes, and the data bits of the current
byte its first bits. -/
def agreesWith (bytes : List Byte) (a : Assembly) : Bool :=
  a.taken.isPrefixOf bytes && decide (a.taken.length < bytes.length) &&
    (decide (a.cells = 0) ||
      decide (a.shift = (bytes.getD a.taken.length 0) >>> (8 - (a.cells - 1))))

/-- The bytes are those of a whole frame that the receiver can end now: 3 + L bytes with L in 0..8 (R29), in agreement with what
has been sampled, and for a transmitting station its own bytes. -/
def frameAdmitted (bytes : List Byte) (s : State) : Bool :=
  decide (s.rli.rx = .inFrame) &&
    decide (frameLengthField bytes ≤ 8) && decide (bytes.length = 3 + frameLengthField bytes) &&
    agreesWith bytes s.rli.frame &&
    match s.rli.tx with
    | some t => decide (t.bytes = bytes)
    | none => true

/-- At the check byte's stop cell, which reads 1, the running check is compared with the check byte (R30). -/
def endFrame (check : Byte) (bytes : List Byte) (s : State) : State :=
  if check = bytes.getLastD 0 then handGoodFrame bytes s else receptionError .checkError s

/-- The frame runs to its check byte's stop cell; the stop cell reads 1, so the line is high and no station drives it. -/
def goodFrame (bytes : List Byte) (s : State) : State :=
  if frameAdmitted bytes s then
    let stopCell := standsAt (bytes.length - 1) 9 s.rli
    updateAttn (endFrame (crc bytes.dropLast) bytes (s.mapRli fun r => { sampledLine stopCell false r with driver := none }))
  else s

/-! ## Sampling (R22, R27, R36, R37) -/

/-- A cell's bit joins the frame under assembly (R27 to R30): errors at the start and stop cells, the length test at the second
header byte, the check at the last byte. -/
def takeBit (bit : Bool) (s : State) : State :=
  let a := s.rli.frame
  if a.cells = 0 then
    if bit then receptionError .frameError s
    else s.mapRli fun r => { r with frame := { a with cells := 1, shift := 0 } }
  else if a.cells < 9 then
    s.mapRli fun r =>
      { r with frame := { a with cells := a.cells + 1, shift := (a.shift <<< 1) ||| (if bit then 1 else 0) } }
  else if !bit then receptionError .frameError s
  else
    let bytes := a.taken ++ [a.shift]
    if bytes.length = 2 ∧ 8 < frameLengthField bytes then receptionError .lengthError s
    else if 3 ≤ bytes.length ∧ bytes.length = 3 + frameLengthField bytes then endFrame a.check bytes s
    else
      s.mapRli fun r =>
        { r with frame := { taken := bytes, cells := 0, shift := 0, check := crcByte a.check a.shift } }

/-- The sample point of the current cell: the line's level is the bit, and a transmitting station compares it with the bit it sent
(R22, R36, R37). -/
def sampleCell (s : State) : State :=
  let bit := !s.rli.lineLow
  let a := s.rli.frame
  let s := s.mapRli fun r => { r with cell := r.cell.map fun c => { c with sampled := true } }
  match s.rli.tx with
  | some t =>
    let sent := sentCell t a
    if sent = bit then takeBit bit s
    else if sent && isArbitrationCell a.taken.length a.cells then takeBit bit (attemptLost s)
    else attemptBitError s
  | none => takeBit bit s

/-- CELL_SAMPLE_POINT: the current cell has not been sampled yet. -/
def cellSamplePoint (s : State) : State :=
  match s.rli.rx, s.rli.cell with
  | .inFrame, some c => if c.sampled then s else updateAttn (sampleCell s)
  | _, _ => s

/-! ## The ends of an attempt, from wherever the frame stands (R36, R37) -/

/-- The frame under assembly when header data cell n, 0..15, has been sampled 0 where the station sent 1: the line carried the
station's own bits up to it (R36; DESIGN CHOICE, safe: log entry 10). -/
def assemblyAtLoss (bytes : List Byte) (n : Nat) : Assembly :=
  let k := n / 8
  let c := n % 8
  { taken := bytes.take k, cells := c + 2,
    shift := ((bytes.getD k 0) >>> (7 - c)) &&& 0xFE, check := crc (bytes.take k) }

/-- Header data cell n lies at or after the cell the frame stands at. -/
def cellAhead (a : Assembly) (n : Nat) : Bool :=
  decide (10 * a.taken.length + a.cells ≤ 10 * (n / 8) + (n % 8) + 1)

/-- A lost arbitration in header data cell n, in which the station sent a 1 (R36). The line is low there and the station's own
pulse has ended. -/
def lostArbitration (n : Fin 16) (s : State) : State :=
  match s.rli.rx, s.rli.tx with
  | .inFrame, some t =>
    if frameCell t.bytes (n.val / 8) (n.val % 8 + 1) && cellAhead s.rli.frame n.val then
      attemptLost (s.mapRli fun r =>
        let current := standsAt (n.val / 8) (n.val % 8 + 1) r
        { sampledLine current true r with
            driver := none, frame := assemblyAtLoss t.bytes n.val
            cell := if current then r.cell.map fun c => { c with sampled := true } else some { age := 10, sampled := true } })
    else s
  | _, _ => s

/-- The current cell, not sampled yet, can be the BIT_ERROR's: the station sends the other bit in it, and it is no arbitration cell in which
a 1 would sample as 0, for that is a lost arbitration (R36, R37). -/
def bitErrorHere (t : TxFrame) (sampled : Bool) (r : RowLine) : Bool :=
  unsampled r && sentCell t r.frame != sampled && (sampled || !isArbitrationCell r.frame.taken.length r.frame.cells)

/-- A BIT_ERROR in the frame in flight, the cell having sampled as given (R37): after a 0 sampled for a 1 the station's own pulse
has ended; after a 1 sampled for a 0 its driver still has 5 µs to go (DEDUCED, safe: log entry 10). The cell is the current one where
it can be, else a later one; a 1 sampled is taken even where no cell still to come is sent 0 (DESIGN CHOICE, safe: log entry 42). -/
def bitError (sampled : Bool) (s : State) : State :=
  match s.rli.rx, s.rli.tx with
  | .inFrame, some t =>
    attemptBitError (s.mapRli fun r =>
      { sampledLine (bitErrorHere t sampled r) (!sampled) r with
          driver := if sampled then some 5 else none })
  | _, _ => s

/-! ## The commands -/

/-- ATTEMPT_START (R48). -/
def execAttemptStart (s : State) : Host.Outcome State Fault Refusal := .next (attemptStart s)

/-- START_EDGE (R26). -/
def execStartEdge (held : Nat) (s : State) : Host.Outcome State Fault Refusal := .next (fallingEdge held s)

/-- QUIET (R24). -/
def execQuiet (s : State) : Host.Outcome State Fault Refusal := .next (quietReached s)

/-- LINE_STUCK (R25). -/
def execLineStuck (s : State) : Host.Outcome State Fault Refusal := .next (lineStuck s)

/-- GAP_TIMEOUT (R28). -/
def execGapTimeout (s : State) : Host.Outcome State Fault Refusal := .next (gapTimeout s)

/-- FRAME_ERROR (R27). -/
def execFrameError (cell : FramingCell) (s : State) : Host.Outcome State Fault Refusal := .next (frameError cell s)

/-- LENGTH_ERROR (R29). -/
def execLengthError (len : BitVec 4) (s : State) : Host.Outcome State Fault Refusal := .next (lengthError len s)

/-- GOOD_FRAME (R30). -/
def execGoodFrame (bytes : List Byte) (s : State) : Host.Outcome State Fault Refusal := .next (goodFrame bytes s)

/-- LOST_ARBITRATION (R36). -/
def execLostArbitration (n : Fin 16) (s : State) : Host.Outcome State Fault Refusal := .next (lostArbitration n s)

/-- BIT_ERROR (R37). -/
def execBitError (sampled : Bool) (s : State) : Host.Outcome State Fault Refusal := .next (bitError sampled s)

/-- CELL_SAMPLE_POINT (R22). -/
def execCellSamplePoint (s : State) : Host.Outcome State Fault Refusal := .next (cellSamplePoint s)

/-- ROW_FALLING_EDGE (R21). -/
def execRowFallingEdge (held : Nat) (s : State) : Host.Outcome State Fault Refusal := .next (fallingEdge held s)

/-- ROW_RISING_EDGE (R25). -/
def execRowRisingEdge (held : Nat) (s : State) : Host.Outcome State Fault Refusal := .next (risingEdge held s)

/-- TRANSMIT_CELL_EDGE (R21). -/
def execTransmitCellEdge (s : State) : Host.Outcome State Fault Refusal := .next (transmitCellEdge s)

/-- DRIVE_RELEASE (R22). -/
def execDriveRelease (s : State) : Host.Outcome State Fault Refusal := .next (driveRelease s)

end Sys2Proof.Machine
end

