-- ==== Sys2Proof/Machine/Startup.lean ====
section
/-! DEFINITION. Reset, start-up and the join timer (chapter 1): the commands RESET, RESET_RELEASE, LOAD_END and
JOIN_TIMER_EXPIRY. -/

namespace Sys2Proof.Machine

/-- Power-on, or the RESET pin held low: every block in its reset state (R6, section 5.5). The level of the row line belongs to
the wire, and the commands still waiting to their sender: both stay as they are (DESIGN CHOICE, unsafe: log entry 5). -/
def resetPart (s : State) : State :=
  { State.reset with
    rli := { State.reset.rli with lineLow := s.rli.lineLow }
    pending := s.pending }

/-! ## The transfer from the configuration memory (R2) -/

/-- The read instruction that the part sends first. -/
def readInstruction : Byte := 0x03

/-- The address at which every load reads. -/
def loadAddress : BitVec 16 := 0x0000

/-- The bytes the part sends on MOSI: the read instruction and the address, most significant byte first. -/
def loadHeader : List Byte := readInstruction :: [loadAddress.extractLsb' 8 8, loadAddress.extractLsb' 0 8]

/-- The whole transfer between CSN low and CSN high, byte for byte: what the part sends on MOSI beside what it takes from MISO. What MISO
holds under the header is not looked at, and what MOSI holds under the image the manual does not say. -/
def loadTransfer (image : List Byte) : List (Option Byte × Option Byte) :=
  loadHeader.map (fun b => (some b, none)) ++ image.map (fun b => (none, some b))

/-- The SCK cycles of a transfer, eight for each byte. -/
def sckCycles (transfer : List (Option Byte × Option Byte)) : Nat := 8 * transfer.length

/-- The image that a transfer brings: the bytes taken from MISO. -/
def imageTaken (transfer : List (Option Byte × Option Byte)) : List Byte := transfer.filterMap (·.2)

/-- The 222 bytes that a memory gives from the address sent on; one that is absent or not answering leaves MISO high, which is 0xFF
everywhere (R3). That the bytes follow at ascending addresses is how such a memory reads (PRESUMED, safe: log entry 37). -/
def memoryImage (memory : Nat → Byte) : List Byte := (List.range 222).map fun k => memory (loadAddress.toNat + k)

/-- The level of CSN: low from reset release to the end of the transfer, which ends the load. A reset abandons the transfer, and CSN is
high whenever no load runs (PRESUMED, safe: log entry 37). -/
def csnHigh (s : State) : Bool := !s.sup.loading

/-! ## Reset release and the end of the load -/

/-- Reset release (R1, R2): the straps are sampled, the load starts, and the time since start counts from 0. -/
def resetRelease (addr : Address) (seg : Segment) (s : State) : State :=
  if s.clk.held then
    (s.mapSup fun p => { p with ownAddr := some addr, ownSeg := some seg, loading := true }).mapClk
      fun _ => { held := false, ms := 0, us := 0 }
  else s

/-- The end of the load puts the set in force with its flags (R3 to R5); no unit is FIRED then, so WATCH_FIRED is clear (DEDUCED,
safe: log entry 21). -/
def installConfig (l : Loaded) (s : State) : State :=
  s.mapSup fun p =>
    { p with cfg := l.cfg, configDefaulted := l.defaulted, configAdjusted := l.adjusted, loading := false,
             watchFired := false }

/-- The receiver enters SEEK_QUIET and starts its quiet timer as though a falling edge had just been seen (R20). -/
def startReceiver (r : RowLine) : RowLine := { toSeekQuiet r with quiet := .running 0 }

/-- The end of STARTING (R6): the watch units take their first states (R105), the demand is set again (R127), the acquisition timer
starts (R91), the link goes to WAIT_QUIET and the receiver to SEEK_QUIET (R20, R39). -/
def endStarting (s : State) : State :=
  let c := s.sup.cfg
  let s := s.mapWch fun _ => freshWatch c
  let s := s.mapShr fun h => { h with demand := startDemand c }
  let s := s.mapMsu fun m => { m with acqTimer := some (msec 100) }
  (s.mapRli startReceiver).mapLnk fun l => { l with link := .waitQuiet }

/-- The configuration load ends (R2), STARTING ends (R6), and the station enters JOINING (R8). -/
def loadEnd (image : List Byte) (s : State) : State :=
  if s.sup.loading then updateAttn (enterJoining (endStarting (installConfig (loadImage image) s)))
  else s

/-- The join timer expires (R11). It runs in JOINING only. -/
def joinTimerExpiry (s : State) : State :=
  match s.sup.joinTimer with
  | some _ =>
    let s := s.mapSup fun p => { p with joinTimer := none }
    if s.sup.mode = .joining then
      match s.sup.dryCheck with
      | .passed => updateAttn (goActive s)
      | .pending => s.mapSup fun p => { p with joinExpired := true }
      | .none => s
      | .failed => s
    else s
  | none => s

/-! ## The commands -/

/-- RESET (R6). -/
def execReset (s : State) : Host.Outcome State Fault Refusal := .next (resetPart s)

/-- RESET_RELEASE (R1). -/
def execResetRelease (addr : Address) (seg : Segment) (s : State) : Host.Outcome State Fault Refusal :=
  .next (resetRelease addr seg s)

/-- LOAD_END (R2). -/
def execLoadEnd (image : List Byte) (s : State) : Host.Outcome State Fault Refusal := .next (loadEnd image s)

/-- JOIN_TIMER_EXPIRY (R11). -/
def execJoinTimerExpiry (s : State) : Host.Outcome State Fault Refusal := .next (joinTimerExpiry s)

end Sys2Proof.Machine
end

