-- ==== Sys2Proof/Machine/ServicePort.lean ====
section
/-! DEFINITION. The service port (chapter 11): the items of the read requests (R177, R178), the pending answer, the seven read
requests, the seven commands, BAD_REQUEST and SERVICE_READ. -/

namespace Sys2Proof.Machine

/-! ## Items (R170, R171, R177, R178) -/

/-- The IDENT item. -/
def identItem (s : State) : List Byte :=
  [0x4B, 0x26, 0x18, 0x01, (ownAddress s).setWidth 8, (ownSegment s).setWidth 8]

/-- The STATION flags byte: bits 0 to 4, and CONFIG_DEFAULTED and CONFIG_ADJUSTED in bits 5 and 6 (R174). -/
def stationFlagsByte (s : State) : Byte :=
  flagsByte (stationFlags s) ||| bitAt 5 s.sup.configDefaulted ||| bitAt 6 s.sup.configAdjusted

/-- A signed value that may be absent: zeros when absent. -/
def be16Opt (v : Option Int) : List Byte := be16Int (v.getD 0)

/-- The STATION item. -/
def stationItem (s : State) : List Byte :=
  let ch (k : Fin 4) : Option Int := s.msu.chans[k].value
  [modeCode s.sup.mode, stationFlagsByte s, dryCheckCode s.sup.dryCheck] ++
    be16 s.shr.demand ++ be16 s.shr.grant ++ be16 s.shr.duty ++ be16Int s.shr.trim ++
    be16 (if s.msu.known then s.msu.flow else 0xFFFF) ++
    be16Opt (ch 0) ++ be16Opt (ch 1) ++ be16Opt (ch 2) ++ be16Opt (ch 3) ++ be16Opt s.msu.deltaP ++
    [bitAt 0 (ch 0).isSome ||| bitAt 1 (ch 1).isSome ||| bitAt 2 (ch 2).isSome ||| bitAt 3 (ch 3).isSome |||
       bitAt 4 s.msu.deltaP.isSome,
     valveCode s.vlv.valve, linkCode s.lnk.link, linkErrorCode s.lnk.lastError, byteOf s.ros.entries.length,
     byteOf s.lnk.queue.length]

/-- One zone of the ZONES item. -/
def zoneItem (r : Option ZoneReading) : List Byte :=
  match r with
  | some r => be16 r.index ++ [zoneStateCode r.state] ++ be16 r.scan.toNat
  | none => [0, 0, 0xFF, 0, 0]

/-- The ZONES item. -/
def zonesItem (s : State) : List Byte :=
  zoneItem s.dsu.latest[0] ++ zoneItem s.dsu.latest[1] ++ zoneItem s.dsu.latest[2] ++ zoneItem s.dsu.latest[3] ++
    [scanStateCode s.dsu.scan, byteOf s.dsu.refFaults]

/-- Whole ms left of a timer that runs: at least 1 while any time is left (R105; DEDUCED, unsafe: log entry 6), and 0 where
none is left and the expiry is still to be taken (DESIGN CHOICE, unsafe: log entry 43). -/
def msLeft (us : Nat) : Nat := (us + 999) / 1000

/-- The WATCH item of unit u. -/
def watchItem (s : State) (u : Fin 8) : List Byte :=
  let w := s.wch.units[u]
  [unitStatusCode w.status, byteOf w.count] ++ be24Int (w.last.getD 0) ++ [if w.last.isSome then 1 else 0] ++
    match w.window with
    | some us => be16 (msLeft us)
    | none => [0xFF, 0xFF]

/-- Whole ms of silence (R67; DEDUCED, unsafe: log entry 6). -/
def msSilent (us : Nat) : Nat := us / 1000

/-- The ROSTER item of an entry. -/
def rosterItem (e : Entry) : List Byte :=
  [e.address.setWidth 8, e.segment.setWidth 8, peerModeCode e.mode, flagsByte e.flags] ++ be16 e.demand ++ be16 e.flow ++
    [e.zones.setWidth 8, byteOf (e.period / 50), livenessCode e.liveness] ++ be16 (msSilent e.silence) ++
    [match e.severity with
     | some v => severityCode v
     | none => 0xFF]

/-- The CAPTURE_INFO item. -/
def captureInfoItem (s : State) : List Byte :=
  let c := s.cap
  [captureStateCode c.frozen] ++ be16 c.ring.length ++
    [freezeReasonCode c.reason,
     match c.unit with
     | some u => byteOf u.val
     | none => 0xFF] ++
    be32 (c.time.getD 0)

/-- The body bytes of an EVENT record: code, argument, and the severity of a PEER_DRIP. -/
def eventBody : CaptureEvent → List Byte
  | .unitFired u => [1, byteOf u.val, 0]
  | .unitCleared u => [2, byteOf u.val, 0]
  | .mode m => [3, modeCode m, 0]
  | .peerDrip a v => [4, a.setWidth 8, severityCode v]
  | .valve v => [5, valveCode v, 0]
  | .holdoff => [6, 0, 0]
  | .refFault => [7, 0, 0]

/-- The kind code and the used body bytes of a record. -/
def recordBytes : RecordBody → List Byte
  | .zone z g st n => [0, byteOf z.val] ++ be16 g ++ [zoneStateCode st] ++ be16 n.toNat
  | .meas f =>
    [1, bitAt 0 f.returnTemp.isSome ||| bitAt 1 f.supplyTemp.isSome ||| bitAt 2 f.deltaP.isSome |||
       bitAt 3 f.flow.isSome] ++
      be16Opt f.returnTemp ++ be16Opt f.supplyTemp ++ be16Opt f.deltaP ++ be16 (f.flow.getD 0) ++
      be16 f.demand ++ be16 f.grant ++ be16 f.duty ++ be16Int f.trim
  | .event e => 2 :: eventBody e

/-- Bytes filled with 0x00, or cut, to n bytes. -/
def padTo (n : Nat) (bytes : List Byte) : List Byte := bytes.take n ++ List.replicate (n - bytes.length) 0

/-- The CAPTURE item of a record: 22 bytes, unused body bytes 0x00 (R178). -/
def captureItem (r : Record) : List Byte := be32 r.time ++ padTo 18 (recordBytes r.body)

/-! ## Taken writes (R165 to R172) -/

/-- A taken write replaces the pending answer (R167). -/
def answer (result : ResultCode) (item : List Byte) (s : State) : State :=
  s.mapSvc fun v => { v with pendingAnswer := some { result := result, item := item } }

/-- While RESET is held low the port acknowledges nothing, so nothing is taken (R165). -/
def whenReleased (f : State → State) (s : State) : State := if s.clk.held then s else f s

/-- The port acknowledges a transaction at this address, and with it every byte of a write: at its own address only, and not while
RESET is held low (R165). -/
def acknowledges (addr : BitVec 7) (s : State) : Bool := decide (addr = serviceAddress) && !s.clk.held

/-- A transaction on the bus ends, the command it spells being this one: an acknowledged one joins the waiting commands, and any other
changes nothing at the part (R165). -/
def busTransaction (addr : BitVec 7) (command : Option Instr) (s : State) : State :=
  if acknowledges addr s then { s with pending := s.pending ++ command.toList } else s

/-- The IDENT request. -/
def identRequest : State → State := whenReleased fun s => answer .ok (identItem s) s

/-- The STATION request. -/
def stationRequest : State → State := whenReleased fun s => answer .ok (stationItem s) s

/-- The ZONES request. -/
def zonesRequest : State → State := whenReleased fun s => answer .ok (zonesItem s) s

/-- The CAPTURE_INFO request. -/
def captureInfoRequest : State → State := whenReleased fun s => answer .ok (captureInfoItem s) s

/-- The WATCH i request: i in 0..7 (R171). -/
def watchRequest (index : Byte) : State → State :=
  whenReleased fun s =>
    if h : index.toNat < 8 then answer .ok (watchItem s ⟨index.toNat, h⟩) s else answer .badIndex [] s

/-- The ROSTER i request: i below the number of entries held (R171). -/
def rosterRequest (index : Byte) : State → State :=
  whenReleased fun s =>
    match s.ros.entries[index.toNat]? with
    | some e => answer .ok (rosterItem e) s
    | none => answer .badIndex [] s

/-- The CAPTURE i request: the capture FROZEN and i below the number of records held (R171). -/
def captureRequest (index : Byte) : State → State :=
  whenReleased fun s =>
    if s.cap.frozen then
      match s.cap.ring[index.toNat]? with
      | some r => answer .ok (captureItem r) s
      | none => answer .badIndex [] s
    else answer .notFrozen [] s

/-- A write that is no request (R166). -/
def badRequestWrite : State → State := whenReleased fun s => answer .badRequest [] s

/-- The effects of an accepted RELEASE, in the order in which R17 names them; so the UNIT_CLEARED records, the MODE records and the
VALVE record of this one moment, whose order R159 leaves open, stand in that order (DESIGN CHOICE, unsafe: log entry 35). -/
def acceptRelease (s : State) : State :=
  let s := leaveFiredWhere (fun _ => true) s
  let s := openRequest (goActive s)
  updateAttn (queueEvent (.clear (ownSegment s)) s)

/-- The RELEASE command (R17). -/
def releaseCommand : State → State :=
  whenReleased fun s =>
    if s.sup.mode = .isolated then
      if allUnits.any (holdsReleaseBack s) then answer .stillWet [] s else answer .ok [] (acceptRelease s)
    else answer .wrongMode [] s

/-- The ACKNOWLEDGE command (R16). -/
def acknowledgeCommand : State → State :=
  whenReleased fun s => answer .ok [] (updateAttn (leaveFiredWhere (fun a => decide (a ≠ .isolate)) s))

/-- The SCAN command (R84). -/
def scanCommand : State → State :=
  whenReleased fun s =>
    if isEvaluating s.sup.mode then answer .ok [] (urgentTrigger s) else answer .wrongMode [] s

/-- The FREEZE command (R161). -/
def freezeCommand : State → State := whenReleased fun s => answer .ok [] (requestFreeze .service none s)

/-- The capture emptied and running again, the decimation count kept (R163). -/
def resumeCapture (c : Capture) : Capture :=
  { c with frozen := false, ring := [], reason := .none, unit := none, time := none }

/-- The RESUME command (R163). -/
def resumeCommand : State → State :=
  whenReleased fun s =>
    if s.cap.frozen then answer .ok [] (s.mapCap resumeCapture) else answer .notFrozen [] s

/-- The effects of an accepted PARK (R14, R53, R87, R139). -/
def acceptPark (s : State) : State :=
  let s := closeRequest (changeMode .parked s)
  let s := (queueEvent .leave s).mapLnk fun l => { l with statusPending := false, renewed := false }
  updateAttn (parkShare (abortScan s))

/-- The PARK command (R14): in ACTIVE, CONTAINED and ISOLATED. -/
def parkCommand : State → State :=
  whenReleased fun s =>
    if isSending s.sup.mode then answer .ok [] (acceptPark s) else answer .wrongMode [] s

/-- The UNPARK command (R15): in PARKED. -/
def unparkCommand : State → State :=
  whenReleased fun s =>
    if s.sup.mode = .parked then answer .ok [] (updateAttn (enterJoining s)) else answer .wrongMode [] s

/-! ## Reads (R167, R168) -/

/-- The bytes a read of n bytes returns: the result byte, the item, then 0x00. -/
def readBytes (a : Option Answer) (n : Nat) : List Byte :=
  match a with
  | some a => padTo n (resultCode a.result :: a.item)
  | none => padTo n [resultCode .noRequest]

/-- A read transaction that ends after n bytes: it consumes the answer provided the result byte has been sent. -/
def serviceRead (n : Nat) : State → State :=
  whenReleased fun s =>
    s.mapSvc fun v =>
      { v with readOut := readBytes v.pendingAnswer n,
               pendingAnswer := if n = 0 then v.pendingAnswer else none }

/-! ## The commands -/

/-- IDENT (R170). -/
def execIdent (s : State) : Host.Outcome State Fault Refusal := .next (identRequest s)

/-- STATION (R170). -/
def execStation (s : State) : Host.Outcome State Fault Refusal := .next (stationRequest s)

/-- ZONES (R89). -/
def execZones (s : State) : Host.Outcome State Fault Refusal := .next (zonesRequest s)

/-- WATCH i (R171). -/
def execWatch (index : Byte) (s : State) : Host.Outcome State Fault Refusal := .next (watchRequest index s)

/-- ROSTER i (R171). -/
def execRoster (index : Byte) (s : State) : Host.Outcome State Fault Refusal := .next (rosterRequest index s)

/-- CAPTURE_INFO (R170). -/
def execCaptureInfo (s : State) : Host.Outcome State Fault Refusal := .next (captureInfoRequest s)

/-- CAPTURE i (R171). -/
def execCapture (index : Byte) (s : State) : Host.Outcome State Fault Refusal := .next (captureRequest index s)

/-- RELEASE (R17). -/
def execRelease (s : State) : Host.Outcome State Fault Refusal := .next (releaseCommand s)

/-- ACKNOWLEDGE (R16). -/
def execAcknowledge (s : State) : Host.Outcome State Fault Refusal := .next (acknowledgeCommand s)

/-- SCAN (R84). -/
def execScan (s : State) : Host.Outcome State Fault Refusal := .next (scanCommand s)

/-- FREEZE (R161). -/
def execFreeze (s : State) : Host.Outcome State Fault Refusal := .next (freezeCommand s)

/-- RESUME (R163). -/
def execResume (s : State) : Host.Outcome State Fault Refusal := .next (resumeCommand s)

/-- PARK (R14). -/
def execPark (s : State) : Host.Outcome State Fault Refusal := .next (parkCommand s)

/-- UNPARK (R15). -/
def execUnpark (s : State) : Host.Outcome State Fault Refusal := .next (unparkCommand s)

/-- BAD_REQUEST (R166). -/
def execBadRequest (s : State) : Host.Outcome State Fault Refusal := .next (badRequestWrite s)

/-- SERVICE_READ (R167). -/
def execServiceRead (count : Nat) (s : State) : Host.Outcome State Fault Refusal := .next (serviceRead count s)

end Sys2Proof.Machine
end

