-- ==== Sys2Proof/Machine/ValveDrive.lean ====
section
/-! DEFINITION. The valve drive's own events (chapter 9): PERIOD_START, PULL_IN_EXPIRY and STROKE_TIMER_EXPIRY, and what its two
outputs do at a moment. The requests and the taking of a duty are shared operations (Ops.lean, Share.lean). -/

namespace Sys2Proof.Machine

/-! ## Outputs (R143, R145, R146) -/

/-- A duty's output t µs after the period start: on for d × 1000/1024 µs (R143). -/
def pwmOn (duty t : Nat) : Bool := decide (t * 1024 < duty * 1000)

/-- The supply output t µs after the period start: at the applied duty in OPEN, off otherwise (R146). -/
def supplyOn (d : Valve) (t : Nat) : Bool := decide (d.valve = .opened) && pwmOn d.applied t

/-- The return output t µs after the period start: off, fully on, or at the hold duty of the configuration set (R142, R145, R146). -/
def returnOn (c : ConfigSet) (d : Valve) (t : Nat) : Bool :=
  match d.returnDrive with
  | .off => false
  | .full => true
  | .hold => pwmOn c.holdDuty t

/-- The SVPWM pin at this µs: a period starts at each whole ms of the time since start (R143, R146). -/
def supplyOutput (s : State) : Bool := supplyOn s.vlv s.clk.us

/-- The RVDRV pin at this µs (R143, R145, R146). -/
def returnOutput (s : State) : Bool := returnOn s.sup.cfg s.vlv s.clk.us

/-! ## Events -/

/-- A PWM period starts: in OPEN the applied duty takes the pending duty, and the return goes from full drive to hold (R144,
R145). The command is taken at any µs of the ms, where the part has it at each whole ms (R143; DESIGN CHOICE, safe: log entry 3). -/
def periodStart (s : State) : State :=
  match s.vlv.valve with
  | .opened => s.mapVlv fun d => { d with applied := d.pendingDuty, returnDrive := .hold }
  | .closed => s
  | .opening => s
  | .closing => s
  | .stuck => s

/-- The pull-in timer expires in OPENING: the valve is OPEN (R149). -/
def pullInExpiry (s : State) : State :=
  match s.vlv.valve with
  | .opening => enterValve .opened (s.mapVlv fun d => { d with pullIn := none })
  | .closed => s
  | .opened => s
  | .closing => s
  | .stuck => s

/-- The stroke check succeeds: the flow is KNOWN and at or below the leak-by threshold (R150). -/
def strokeCheck (s : State) : Bool := s.msu.known && decide (s.msu.flow ≤ s.sup.cfg.leakBy)

/-- The stroke timer expires in CLOSING: the check, and CLOSED, STUCK or the reopening (R150, R151). -/
def strokeTimerExpiry (s : State) : State :=
  match s.vlv.valve with
  | .closing =>
    let reopen := s.vlv.reopen
    let t := s.mapVlv fun d => { d with stroke := none, reopen := false, strokeFault := !strokeCheck s }
    updateAttn
      (match strokeCheck s, reopen with
       | true, true => startOpening (enterValve .closed t)
       | true, false => enterValve .closed t
       | false, true => startOpening t
       | false, false => enterValve .stuck t)
  | .closed => s
  | .opening => s
  | .opened => s
  | .stuck => s

/-! ## The commands -/

/-- PERIOD_START (R143). -/
def execPeriodStart (s : State) : Host.Outcome State Fault Refusal := .next (periodStart s)

/-- PULL_IN_EXPIRY (R149). -/
def execPullInExpiry (s : State) : Host.Outcome State Fault Refusal := .next (pullInExpiry s)

/-- STROKE_TIMER_EXPIRY (R150). -/
def execStrokeTimerExpiry (s : State) : Host.Outcome State Fault Refusal := .next (strokeTimerExpiry s)

end Sys2Proof.Machine
end

