-- ==== Sys2Proof/Machine/Time.lean ====
section
/-! DEFINITION. The passing of time. The table has no row for it, so a step on an empty queue is one tick of the 1 MHz time base: every
running timer and count moves on by 1 µs. No tick passes an event that is due: each is taken first, from the queue (DESIGN CHOICE,
unsafe: log entries 1 and 27). -/

namespace Sys2Proof.Machine

/-! ## One tick, block by block -/

/-- A timer that runs has 1 µs less left. -/
def tickDown (t : Option Nat) : Option Nat := t.map fun n => n - 1

/-- A count that runs has 1 µs more. -/
def tickUp (t : Option Nat) : Option Nat := t.map fun n => n + 1

/-- The quiet timer: at 160 µs it has run out; with the line low it then waits for the next rising edge (R24). -/
def tickQuiet (low : Bool) (q : QuietTimer) : QuietTimer :=
  match q with
  | .stopped => .stopped
  | .awaitRise => .awaitRise
  | .running e => if e + 1 < 160 then .running (e + 1) else if low then .awaitRise else .running 160

/-- The row line interface. -/
def tickRowLine (r : RowLine) : RowLine :=
  { r with driver := tickDown r.driver, quiet := tickQuiet r.lineLow r.quiet, lowTime := tickUp r.lowTime,
           cell := r.cell.map fun c => { c with age := c.age + 1 } }

/-- The link controller. -/
def tickLink (l : Link) : Link := { l with announce := tickDown l.announce, holdoff := tickDown l.holdoff }

/-- The peer roster: silences. -/
def tickRoster (r : Roster) : Roster :=
  { r with entries := r.entries.map fun e => { e with silence := e.silence + 1 } }

/-- The drip sensing unit: the time base counts up in REFERENCE and down in SENSOR(z) (R75, R77). -/
def tickDrip (d : DripUnit) : DripUnit :=
  { d with scanTimer := tickDown d.scanTimer,
           timeBase := match d.scan with
             | .idle => d.timeBase
             | .reference => tickUp d.timeBase
             | .sensor _ => tickDown d.timeBase }

/-- The measurement unit. -/
def tickMeasure (m : Measure) : Measure := { m with acqTimer := tickDown m.acqTimer, period := tickUp m.period }

/-- One watch unit's window timer. -/
def tickUnit (w : WatchUnit) : WatchUnit := { w with window := tickDown w.window }

/-- The watch engine: window timers, suspended in PARKED (R106, R116). The suspension is read from the mode (DEDUCED, safe: log
entry 28). -/
def tickWatch (mode : Mode) (w : Watch) : Watch :=
  if mode = .parked then w
  else
    { w with units := #v[tickUnit w.units[0], tickUnit w.units[1], tickUnit w.units[2], tickUnit w.units[3],
                         tickUnit w.units[4], tickUnit w.units[5], tickUnit w.units[6], tickUnit w.units[7]] }

/-- The valve drive. -/
def tickValve (d : Valve) : Valve := { d with pullIn := tickDown d.pullIn, stroke := tickDown d.stroke }

/-- The time since start (section 5.4); the ms count wraps after 4,294,967,295 (R158). -/
def tickClock (c : Clock) : Clock :=
  if c.us + 1 < 1000 then { c with us := c.us + 1 } else { c with us := 0, ms := c.ms + 1 }

/-- One tick of everything that runs. -/
def tickState (s : State) : State :=
  { s with
    sup := { s.sup with joinTimer := tickDown s.sup.joinTimer }
    rli := tickRowLine s.rli
    lnk := tickLink s.lnk
    ros := tickRoster s.ros
    dsu := tickDrip s.dsu
    msu := tickMeasure s.msu
    wch := tickWatch s.sup.mode s.wch
    vlv := tickValve s.vlv
    clk := tickClock s.clk }

/-! ## Events that fall due -/

/-- A timer that has run out. -/
def ranOut (t : Option Nat) : Bool := decide (t = some 0)

/-- An event, where it is due. -/
def dueWhen (b : Bool) (i : Instr) : List Instr := if b then [i] else []

/-- The age of the current cell, where its sample point has passed as given. -/
def cellAt (r : RowLine) (sampled : Bool) (age : Nat) : Bool :=
  match r.cell with
  | some c => decide (r.rx = .inFrame) && (c.sampled == sampled) && decide (age ≤ c.age)
  | none => false

/-- The row line interface's events: the driver's release, the sample point at 10 µs, the next transmitted cell at 20 µs, the gap
timeout at 100 µs from the cell's edge (DEDUCED, safe: log entry 11), the line stuck beyond 320 µs, quiet at 160 µs (R21 to R28). -/
def dueRowLine (r : RowLine) : List Instr :=
  dueWhen (ranOut r.driver) .driveRelease ++
  dueWhen (cellAt r false 10) .cellSamplePoint ++
  dueWhen (r.tx.isSome && cellAt r true 20) .transmitCellEdge ++
  dueWhen (r.tx.isNone && cellAt r true 100) .gapTimeout ++
  dueWhen (r.tx.isNone && decide (r.rx = .seekQuiet ∨ r.rx = .idle ∨ r.rx = .inFrame) &&
      match r.lowTime with
      | some n => decide (320 < n)
      | none => false) .lineStuck ++
  dueWhen (decide (r.rx = .seekQuiet ∨ r.rx = .stuck) && decide (r.quiet = .running 160) && !r.lineLow) .quiet

/-- The roster's ageing events: STALE at three periods, removal at eight (R67, R68). -/
def dueEntry (e : Entry) : List Instr :=
  dueWhen (decide (e.liveness = .live) && decide (msec (3 * e.period) ≤ e.silence)) (.entryStale e.address) ++
  dueWhen (decide (msec (8 * e.period) ≤ e.silence)) (.entryRemoval e.address)

/-- The drip sensing unit's events: the scan timer, and the reference fault at 1,048,575 ticks (R76, R85). -/
def dueDrip (d : DripUnit) : List Instr :=
  dueWhen (ranOut d.scanTimer) .scanTimerExpiry ++
  dueWhen (decide (d.scan = .reference) &&
      match d.timeBase with
      | some n => decide (1048575 ≤ n)
      | none => false) .referenceFault

/-- The measurement unit's events: the acquisition timer, and no-flow at 500,000 µs (R91, R102). -/
def dueMeasure (m : Measure) : List Instr :=
  dueWhen (ranOut m.acqTimer) .acquisitionTimerExpiry ++
  dueWhen (decide (m.edge = .timing) &&
      match m.period with
      | some n => decide (500000 ≤ n)
      | none => false) .noFlow

/-- The window expiries, of units in ARMED and outside PARKED (R116). -/
def dueWindows (mode : Mode) (w : Watch) : List Instr :=
  if mode = .parked then []
  else allUnits.flatMap fun u =>
    dueWhen (decide (w.units[u].status = .armed) && ranOut w.units[u].window) (.windowExpiry u)

/-- The valve drive's events: the pull-in in OPENING and the stroke in CLOSING (R149, R150). -/
def dueValve (d : Valve) : List Instr :=
  dueWhen (decide (d.valve = .opening) && ranOut d.pullIn) .pullInExpiry ++
  dueWhen (decide (d.valve = .closing) && ranOut d.stroke) .strokeTimerExpiry

/-- Every event that is due, block by block in the order of section 2. Events that fall due in one µs may be taken in any order
(section 5.4); this is the order in which the idle part takes them (DESIGN CHOICE, unsafe: log entry 4). -/
def dueEvents (s : State) : List Instr :=
  dueWhen (ranOut s.sup.joinTimer) .joinTimerExpiry ++
  dueRowLine s.rli ++
  dueWhen (ranOut s.lnk.announce) .announceTimerExpiry ++
  dueWhen (ranOut s.lnk.holdoff) .holdoffExpiry ++
  s.ros.entries.flatMap dueEntry ++
  dueDrip s.dsu ++
  dueMeasure s.msu ++
  dueWindows s.sup.mode s.wch ++
  dueValve s.vlv

/-! ## The step on an empty queue -/

/-- One tick; the one that completes a ms queues the start of the PWM period (R143). -/
def passTime (s : State) : State :=
  let t := tickState s
  { t with pending := dueWhen (decide (t.clk.us = 0)) .periodStart }

/-- An empty queue: with RESET low nothing runs; the first of the events due is queued, and what is still due after it is found at the
next empty queue, so that an event which another has put off does not happen (R67, R68, R116); then an offer that can start does so at
once (R35, R46); and with nothing due and nothing to start, one tick passes (DESIGN CHOICE, unsafe: log entries 1, 4 and 14). -/
def idle (s : State) : State :=
  if s.clk.held then s
  else
    match dueEvents s with
    | e :: _ => { s with pending := [e] }
    | [] =>
      if s.rli.rx = .idle ∧ (standingOffer s).isSome then { s with pending := [.attemptStart] } else passTime s

end Sys2Proof.Machine
end

