-- ==== Sys2Proof/Machine/Dispatch.lean ====
section
/-! DEFINITION. One arm per command, each a direct call of its meaning. -/

namespace Sys2Proof.Machine

def exec (i : Instr) (s : State) : Host.Outcome State Fault Refusal :=
  match i with
  | .reset => Sys2Proof.Machine.execReset s
  | .resetRelease addr seg => Sys2Proof.Machine.execResetRelease addr seg s
  | .loadEnd image => Sys2Proof.Machine.execLoadEnd image s
  | .joinTimerExpiry => Sys2Proof.Machine.execJoinTimerExpiry s
  | .announceTimerExpiry => Sys2Proof.Machine.execAnnounceTimerExpiry s
  | .holdoffExpiry => Sys2Proof.Machine.execHoldoffExpiry s
  | .attemptStart => Sys2Proof.Machine.execAttemptStart s
  | .startEdge held => Sys2Proof.Machine.execStartEdge held s
  | .quiet => Sys2Proof.Machine.execQuiet s
  | .lineStuck => Sys2Proof.Machine.execLineStuck s
  | .gapTimeout => Sys2Proof.Machine.execGapTimeout s
  | .frameError cell => Sys2Proof.Machine.execFrameError cell s
  | .lengthError len => Sys2Proof.Machine.execLengthError len s
  | .goodFrame bytes => Sys2Proof.Machine.execGoodFrame bytes s
  | .lostArbitration cell => Sys2Proof.Machine.execLostArbitration cell s
  | .bitError sampled => Sys2Proof.Machine.execBitError sampled s
  | .entryStale addr => Sys2Proof.Machine.execEntryStale addr s
  | .entryRemoval addr => Sys2Proof.Machine.execEntryRemoval addr s
  | .scanTimerExpiry => Sys2Proof.Machine.execScanTimerExpiry s
  | .referencePhaseEnd ticks => Sys2Proof.Machine.execReferencePhaseEnd ticks s
  | .referenceFault => Sys2Proof.Machine.execReferenceFault s
  | .sensorPhaseEnd cycles => Sys2Proof.Machine.execSensorPhaseEnd cycles s
  | .counterOverflow => Sys2Proof.Machine.execCounterOverflow s
  | .acquisitionTimerExpiry => Sys2Proof.Machine.execAcquisitionTimerExpiry s
  | .conversionEnd code => Sys2Proof.Machine.execConversionEnd code s
  | .flowRisingEdge ticks => Sys2Proof.Machine.execFlowRisingEdge ticks s
  | .noFlow => Sys2Proof.Machine.execNoFlow s
  | .windowExpiry unit => Sys2Proof.Machine.execWindowExpiry unit s
  | .periodStart => Sys2Proof.Machine.execPeriodStart s
  | .pullInExpiry => Sys2Proof.Machine.execPullInExpiry s
  | .strokeTimerExpiry => Sys2Proof.Machine.execStrokeTimerExpiry s
  | .ident => Sys2Proof.Machine.execIdent s
  | .station => Sys2Proof.Machine.execStation s
  | .zones => Sys2Proof.Machine.execZones s
  | .watch index => Sys2Proof.Machine.execWatch index s
  | .roster index => Sys2Proof.Machine.execRoster index s
  | .captureInfo => Sys2Proof.Machine.execCaptureInfo s
  | .capture index => Sys2Proof.Machine.execCapture index s
  | .release => Sys2Proof.Machine.execRelease s
  | .acknowledge => Sys2Proof.Machine.execAcknowledge s
  | .scan => Sys2Proof.Machine.execScan s
  | .freeze => Sys2Proof.Machine.execFreeze s
  | .resume => Sys2Proof.Machine.execResume s
  | .park => Sys2Proof.Machine.execPark s
  | .unpark => Sys2Proof.Machine.execUnpark s
  | .badRequest => Sys2Proof.Machine.execBadRequest s
  | .serviceRead count => Sys2Proof.Machine.execServiceRead count s
  | .cellSamplePoint => Sys2Proof.Machine.execCellSamplePoint s
  | .rowFallingEdge held => Sys2Proof.Machine.execRowFallingEdge held s
  | .rowRisingEdge held => Sys2Proof.Machine.execRowRisingEdge held s
  | .transmitCellEdge => Sys2Proof.Machine.execTransmitCellEdge s
  | .driveRelease => Sys2Proof.Machine.execDriveRelease s

end Sys2Proof.Machine
end

