-- ==== Sys2Proof/Machine/ConfigImage.lean ====
section
/-! DEFINITION. The image that holds a configuration set (R176): the inverse of the load, field by field in the order of the image. -/

namespace Sys2Proof.Machine

/-- The source code of a watch unit (R176). -/
def sourceCode : Source → Byte
  | .none => 0
  | .zone z => byteOf (1 + z.val)
  | .returnTemp => 5
  | .supplyTemp => 6
  | .diffPressure => 7
  | .flowExcess => 8
  | .peerDrip => 9

/-- The comparison code of a watch unit (R176). -/
def comparisonCode : Comparison → Byte
  | .above => 0
  | .below => 1
  | .outside => 2
  | .inside => 3

/-- The count mode code of a watch unit (R176). -/
def countModeCode : CountMode → Byte
  | .consecutive => 0
  | .cumulative => 1

/-- The arming code of a watch unit (R176). -/
def armingCode : Arming → Byte
  | .always => 0x00
  | .afterUnit k => byteOf (0x10 + k.val)
  | .afterPeerDrip => 0x20

/-- The action code of a watch unit (R176). -/
def actionCode : Action → Byte
  | .note => 0
  | .alert => 1
  | .isolate => 2
  | .freeze => 3
  | .chain => 4

/-- The latch code of a watch unit (R176). -/
def latchCode : Latch → Byte
  | .latched => 0
  | .selfClear => 1

/-- The sixteen bytes of a watch unit (R176). -/
def unitImage (c : UnitConfig) : List Byte :=
  [sourceCode c.source, comparisonCode c.comparison] ++ be24Int c.low ++ be24Int c.high ++
    [byteOf c.countN, countModeCode c.countMode, armingCode c.arming] ++ be16 c.window ++
    [actionCode c.action, latchCode c.latch, byteOf c.clearCount]

/-- The four bytes of a channel's scaling (R176). -/
def scaleImage (a : AnalogScale) : List Byte := be16Int a.low ++ be16Int a.high

/-- The nine 16-bit values of a table (R176). -/
def tableImage (t : Vector Nat 9) : List Byte :=
  be16 t[0] ++ be16 t[1] ++ be16 t[2] ++ be16 t[3] ++ be16 t[4] ++ be16 t[5] ++ be16 t[6] ++ be16 t[7] ++ be16 t[8]

/-- Bytes 0..219 of the image (R176). -/
def imageBody (c : ConfigSet) : List Byte :=
  [0x6B, 222, byteOf c.pAnnUnits] ++ be16 c.capacity ++ [byteOf c.quorum] ++ be16 c.gcont ++ [bitAt 0 c.rxFilter] ++
    be16 c.tset ++ be16 c.dbase ++ [byteOf c.kd] ++ be16 c.dmin ++ be16 c.dmax ++ be16 c.slew ++
    tableImage c.flowPoints ++ tableImage c.dutyPoints ++
    [byteOf c.trimStep, byteOf c.tmax, byteOf c.deadband] ++ be16 c.pullInTime ++ be16 c.holdDuty ++ be16 c.strokeTime ++
    [byteOf c.leakBy] ++ be16 c.kFactor ++
    scaleImage c.analog[0] ++ scaleImage c.analog[1] ++ scaleImage c.analog[2] ++ scaleImage c.analog[3] ++
    be16 c.mCycles ++ be16 c.scanPeriod ++ [byteOf (16 * c.startZone.val + c.endZone.val)] ++ be16 c.openThreshold ++
    [byteOf c.decimation] ++
    unitImage c.units[0] ++ unitImage c.units[1] ++ unitImage c.units[2] ++ unitImage c.units[3] ++
    unitImage c.units[4] ++ unitImage c.units[5] ++ unitImage c.units[6] ++ unitImage c.units[7]

/-- The 222-byte image of a configuration set, its check last (R3, R176). -/
def configImage (c : ConfigSet) : List Byte := imageBody c ++ be16 (imageSum (imageBody c) % 65536)

end Sys2Proof.Machine
end

