-- ==== Sys2Proof/Safety.lean ====
section
/-! DEFINITION. What holds of the part in every state it reaches: the ranges of the configuration set, and for each block the
relations between its pieces of state that the manual states. Each is a predicate that every step keeps. -/

namespace Sys2Proof.Safety

open Sys2Proof.Machine

/-! ## The configuration set (R4, R5) -/

/-- A watch unit's fields are in range, an ISOLATE unit is LATCHED, and its arming names neither itself nor, for a PEER_DRIP unit,
the peer drip (R4, R5). -/
def UnitInRange (u : Fin 8) (c : UnitConfig) : Prop :=
  (-32768 ≤ c.low ∧ c.low ≤ 65535) ∧ (-32768 ≤ c.high ∧ c.high ≤ 65535) ∧ (1 ≤ c.countN ∧ c.countN ≤ 255) ∧
  c.window ≤ 60000 ∧ (1 ≤ c.clearCount ∧ c.clearCount ≤ 255) ∧ (c.action = .isolate → c.latch = .latched) ∧
  c.arming ≠ .afterUnit u ∧ ¬(c.source = .peerDrip ∧ c.arming = .afterPeerDrip)

/-- Every field of the configuration set is in its range, and the relations of R5 hold (R4, R5). -/
def ConfigInRange (c : ConfigSet) : Prop :=
  (2 ≤ c.pAnnUnits ∧ c.pAnnUnits ≤ 20) ∧ (100 ≤ c.capacity ∧ c.capacity ≤ 64000) ∧ c.quorum ≤ 8 ∧ c.gcont ≤ 2000 ∧
  (200 ≤ c.tset ∧ c.tset ≤ 700) ∧ c.dbase ≤ 2000 ∧ c.kd ≤ 255 ∧ c.dmin ≤ c.dmax ∧ c.dmax ≤ 2000 ∧
  (1 ≤ c.slew ∧ c.slew ≤ 500) ∧
  (∀ k : Fin 8, c.flowPoints[k.val] < c.flowPoints[k.val + 1]) ∧ c.flowPoints[8] ≤ 2000 ∧
  (∀ k : Fin 8, c.dutyPoints[k.val] ≤ c.dutyPoints[k.val + 1]) ∧ c.dutyPoints[8] ≤ 1023 ∧
  (1 ≤ c.trimStep ∧ c.trimStep ≤ 16) ∧ c.tmax ≤ 255 ∧ c.deadband ≤ 200 ∧
  (50 ≤ c.pullInTime ∧ c.pullInTime ≤ 500) ∧ (100 ≤ c.holdDuty ∧ c.holdDuty ≤ 1023) ∧
  (1000 ≤ c.strokeTime ∧ c.strokeTime ≤ 20000) ∧ c.leakBy ≤ 100 ∧ (50 ≤ c.kFactor ∧ c.kFactor ≤ 5000) ∧
  (∀ k : Fin 4, -32768 ≤ c.analog[k].low ∧ c.analog[k].low < c.analog[k].high ∧ c.analog[k].high ≤ 32767) ∧
  (256 ≤ c.mCycles ∧ c.mCycles ≤ 16384) ∧ (250 ≤ c.scanPeriod ∧ c.scanPeriod ≤ 10000) ∧
  c.startZone.val ≤ c.endZone.val ∧ c.openThreshold ≤ 1000 ∧ (1 ≤ c.decimation ∧ c.decimation ≤ 50) ∧
  (∀ u : Fin 8, UnitInRange u c.units[u])

/-- The configuration set in force is in range: the defaults from reset, a loaded and repaired set after it. -/
def ConfigSafe (s : State) : Prop := ConfigInRange s.sup.cfg

/-! ### What a checked image says, field by field (R4, R174, R176) -/

/-- A 16-bit field of the image as a signed value. -/
def signed16 (v : Nat) : Int := if v < 32768 then v else v - 65536

/-- A 24-bit field of the image as a signed value. -/
def signed24 (v : Nat) : Int := if v < 8388608 then v else v - 16777216

/-- The two bytes at i, most significant first. -/
def bytes2 (image : List Byte) (i : Nat) : Nat := 256 * imageByte image i + imageByte image (i + 1)

/-- The three bytes at i, most significant first. -/
def bytes3 (image : List Byte) (i : Nat) : Nat := 65536 * imageByte image i + bytes2 image (i + 1)

/-- An unsigned field of the image: the value its bytes hold, its range, its default, and the set's field. -/
structure NatField where
  held : Nat
  least : Nat
  greatest : Nat
  dflt : Nat
  value : Nat

/-- The value held is in the field's range. -/
def NatField.inRange (f : NatField) : Prop := f.least ≤ f.held ∧ f.held ≤ f.greatest

/-- In range the field is taken as it stands; out of range it takes its default. -/
def NatField.taken (f : NatField) : Prop := (f.inRange → f.value = f.held) ∧ (¬f.inRange → f.value = f.dflt)

/-- The unsigned fields of an image beside those of a set, in the image's order (R4, R176). -/
def natFields (image : List Byte) (c : ConfigSet) : List NatField :=
  let b := imageByte image
  let w := bytes2 image
  [⟨b 2, 2, 20, 5, c.pAnnUnits⟩,
   ⟨w 3, 100, 64000, 6000, c.capacity⟩,
   ⟨b 5, 0, 8, 2, c.quorum⟩,
   ⟨w 6, 0, 2000, 200, c.gcont⟩,
   ⟨w 9, 200, 700, 450, c.tset⟩,
   ⟨w 11, 0, 2000, 600, c.dbase⟩,
   ⟨b 13, 0, 255, 40, c.kd⟩,
   ⟨w 14, 0, 2000, 200, c.dmin⟩,
   ⟨w 16, 0, 2000, 1800, c.dmax⟩,
   ⟨w 18, 1, 500, 50, c.slew⟩,
   ⟨b 56, 1, 16, 2, c.trimStep⟩,
   ⟨b 57, 0, 255, 64, c.tmax⟩,
   ⟨b 58, 0, 200, 10, c.deadband⟩,
   ⟨w 59, 50, 500, 150, c.pullInTime⟩,
   ⟨w 61, 100, 1023, 400, c.holdDuty⟩,
   ⟨w 63, 1000, 20000, 6000, c.strokeTime⟩,
   ⟨b 65, 0, 100, 8, c.leakBy⟩,
   ⟨w 66, 50, 5000, 450, c.kFactor⟩,
   ⟨w 84, 256, 16384, 4096, c.mCycles⟩,
   ⟨w 86, 250, 10000, 1000, c.scanPeriod⟩,
   ⟨w 89, 0, 1000, 20, c.openThreshold⟩,
   ⟨b 91, 1, 50, 10, c.decimation⟩]

/-- The default of flow point k and of duty point k. -/
def tableDefault (k : Fin 9) : Nat × Nat :=
  (#v[0, 250, 500, 750, 1000, 1250, 1500, 1750, 2000][k], #v[120, 260, 380, 480, 570, 650, 730, 810, 900][k])

/-- A coded field takes the value whose code it holds, and its default where it holds none. -/
def CodeTaken {α : Type} (code : α → Byte) (held : Nat) (dflt x : α) : Prop :=
  (∀ v, held = (code v).toNat → x = v) ∧ ((∀ v, held ≠ (code v).toNat) → x = dflt)

/-- Watch unit u of the image, each of its eleven fields tested on its own against the unit's own default (R4). -/
def UnitFields (image : List Byte) (u : Fin 8) (c : UnitConfig) : Prop :=
  let i := 92 + 16 * u.val
  let d := defaultUnit u
  let low := signed24 (bytes3 image (i + 2))
  let high := signed24 (bytes3 image (i + 5))
  CodeTaken sourceCode (imageByte image i) d.source c.source ∧
  CodeTaken comparisonCode (imageByte image (i + 1)) d.comparison c.comparison ∧
  c.low = (if -32768 ≤ low ∧ low ≤ 65535 then low else d.low) ∧
  c.high = (if -32768 ≤ high ∧ high ≤ 65535 then high else d.high) ∧
  c.countN = (if 1 ≤ imageByte image (i + 8) then imageByte image (i + 8) else d.countN) ∧
  CodeTaken countModeCode (imageByte image (i + 9)) d.countMode c.countMode ∧
  CodeTaken armingCode (imageByte image (i + 10)) d.arming c.arming ∧
  c.window = (if bytes2 image (i + 11) ≤ 60000 then bytes2 image (i + 11) else d.window) ∧
  CodeTaken actionCode (imageByte image (i + 13)) d.action c.action ∧
  CodeTaken latchCode (imageByte image (i + 14)) d.latch c.latch ∧
  c.clearCount = (if 1 ≤ imageByte image (i + 15) then imageByte image (i + 15) else d.clearCount)

/-- The set that the field tests leave of a checked image: every field in range as it stands, every other at its default (R4). -/
def ImageFields (image : List Byte) (c : ConfigSet) : Prop :=
  (∀ f ∈ natFields image c, f.taken) ∧
  c.rxFilter = (if imageByte image 8 = 0 then false else true) ∧
  (∀ k : Fin 9,
    c.flowPoints[k] = (if bytes2 image (20 + 2 * k.val) ≤ 2000 then bytes2 image (20 + 2 * k.val) else (tableDefault k).1) ∧
    c.dutyPoints[k] = (if bytes2 image (38 + 2 * k.val) ≤ 1023 then bytes2 image (38 + 2 * k.val) else (tableDefault k).2)) ∧
  (∀ k : Fin 4, c.analog[k] =
    { low := signed16 (bytes2 image (68 + 4 * k.val)), high := signed16 (bytes2 image (70 + 4 * k.val)) }) ∧
  c.startZone.val = (if imageByte image 88 / 16 ≤ 3 then imageByte image 88 / 16 else 0) ∧
  c.endZone.val = (if imageByte image 88 % 16 ≤ 3 then imageByte image 88 % 16 else 3) ∧
  ∀ u : Fin 8, UnitFields image u c.units[u]

/-- Some field of watch unit u of the image is out of range (R4). -/
def UnitOutOfRange (image : List Byte) (u : Fin 8) : Prop :=
  let i := 92 + 16 * u.val
  let low := signed24 (bytes3 image (i + 2))
  let high := signed24 (bytes3 image (i + 5))
  (∀ v, imageByte image i ≠ (sourceCode v).toNat) ∨ (∀ v, imageByte image (i + 1) ≠ (comparisonCode v).toNat) ∨
  ¬(-32768 ≤ low ∧ low ≤ 65535) ∨ ¬(-32768 ≤ high ∧ high ≤ 65535) ∨ imageByte image (i + 8) = 0 ∨
  (∀ v, imageByte image (i + 9) ≠ (countModeCode v).toNat) ∨ (∀ v, imageByte image (i + 10) ≠ (armingCode v).toNat) ∨
  60000 < bytes2 image (i + 11) ∨ (∀ v, imageByte image (i + 13) ≠ (actionCode v).toNat) ∨
  (∀ v, imageByte image (i + 14) ≠ (latchCode v).toNat) ∨ imageByte image (i + 15) = 0

/-- Some field of the image is out of range (R4). -/
def ImageOutOfRange (image : List Byte) : Prop :=
  (∃ f ∈ natFields image defaultConfig, ¬f.inRange) ∨ 1 < imageByte image 8 ∨
  (∃ k : Fin 9, 2000 < bytes2 image (20 + 2 * k.val) ∨ 1023 < bytes2 image (38 + 2 * k.val)) ∨
  3 < imageByte image 88 / 16 ∨ 3 < imageByte image 88 % 16 ∨ ∃ u : Fin 8, UnitOutOfRange image u

/-! ## STARTING (R1, R6) -/

/-- The mode is STARTING exactly while RESET is low or the load runs; the straps have values exactly from reset release on; and in
STARTING every block stands as reset left it, but for the straps, the level of the row line, the capture's freeze and the service
port's answer. -/
def StartingSafe (s : State) : Prop :=
  (s.sup.mode = .starting ↔ (s.clk.held = true ∨ s.sup.loading = true)) ∧
  (s.clk.held = true → s.sup.loading = false ∧ s.sup.ownAddr = none ∧ s.sup.ownSeg = none) ∧
  (s.clk.held = false → s.sup.ownAddr.isSome = true ∧ s.sup.ownSeg.isSome = true) ∧
  (s.sup.mode = .starting →
    s.sup = { State.reset.sup with ownAddr := s.sup.ownAddr, ownSeg := s.sup.ownSeg, loading := s.sup.loading } ∧
    s.rli = { State.reset.rli with lineLow := s.rli.lineLow } ∧ s.lnk = State.reset.lnk ∧ s.ros = State.reset.ros ∧
    s.dsu = State.reset.dsu ∧ s.msu = State.reset.msu ∧ s.wch = State.reset.wch ∧ s.shr = State.reset.shr ∧
    s.vlv = State.reset.vlv ∧ s.cap.ring = [] ∧ s.cap.count = 0 ∧ s.svc.attn = false)

/-! ## Modes and the join (R10, R11, R13, R41) -/

/-- The announce timer runs exactly in the sending modes; the join timer runs in JOINING only; a join is waiting for the check,
for the timer, or for both; the join fault count stays below 3 while the check waits; ACTIVE and CONTAINED agree with the
containment count; the scan timer runs in the sending modes and in CONFLICT; the join-degrade contribution stands only while
reference faults are counted, and before a scan in progress too. -/
def ModeSafe (s : State) : Prop :=
  (s.lnk.announce.isSome = isSending s.sup.mode) ∧
  (s.sup.joinTimer.isSome = true → s.sup.mode = .joining) ∧
  (s.sup.mode = .joining →
    (s.sup.dryCheck = .pending ∧ s.sup.joinFaults < 3 ∧ (s.sup.joinTimer.isSome = !s.sup.joinExpired)) ∨
    (s.sup.dryCheck = .passed ∧ s.sup.joinTimer.isSome = true ∧ s.sup.joinExpired = false)) ∧
  s.sup.joinFaults ≤ 3 ∧
  (s.sup.mode = .contained → 1 ≤ s.sup.cfg.quorum ∧ s.sup.cfg.quorum ≤ isolationCount s) ∧
  (s.sup.mode = .active → s.sup.cfg.quorum = 0 ∨ isolationCount s < s.sup.cfg.quorum) ∧
  (isSending s.sup.mode = true ∨ s.sup.mode = .conflict → s.dsu.scanTimer.isSome = true) ∧
  (s.sup.joinDegrade = true → 0 < s.dsu.refFaults ∧ (s.dsu.scan ≠ .idle → 0 < s.dsu.refFaultsBefore))

/-! ## The link and the row line (R39 to R53) -/

/-- The link state agrees with the receiver (R39): HOLDOFF hides the receiver's own state. -/
def LinkMatches (s : State) : Prop :=
  match s.lnk.link with
  | .off => s.rli.rx = .off
  | .waitQuiet => s.rli.rx = .seekQuiet
  | .idle => s.rli.rx = .idle
  | .receiving => s.rli.rx = .inFrame
  | .sending => s.rli.rx = .inFrame
  | .holdoff => (s.rli.rx = .seekQuiet ∨ s.rli.rx = .idle ∨ s.rli.rx = .inFrame) ∧ s.lnk.holdoff.isSome = true
  | .lineFault => s.rli.rx = .stuck

/-- In OFF the quiet timer and the low-time measure are stopped. In every other state the quiet timer has counted at most 160 µs, or waits
for a rise while the line is low, so that quiet is reached once the line stays high; and the measure runs exactly while the line is low
(R20, R24, R25). -/
def LineTimersSafe (s : State) : Prop :=
  match s.rli.rx with
  | .off => s.rli.quiet = .stopped ∧ s.rli.lowTime = none
  | .seekQuiet | .idle | .inFrame | .stuck =>
    (match s.rli.quiet with
     | .running n => n ≤ 160
     | .awaitRise => s.rli.lineLow = true
     | .stopped => False) ∧
    s.rli.lowTime.isSome = s.rli.lineLow

/-- The link agrees with the receiver; a frame is in flight exactly in SENDING, and an event frame in flight is the queue's head;
the queue holds at most 4 frames; the attempt count is 4 exactly while the holdoff timer runs, which is in HOLDOFF or LINE_FAULT;
the renewed mark is set only while a STATUS is in flight; in CONFLICT nothing is waiting to be sent; and the line's timers are as
LineTimersSafe says. -/
def LinkSafe (s : State) : Prop :=
  LinkMatches s ∧
  (s.lnk.link = .sending ↔ s.rli.tx.isSome = true) ∧
  (match s.rli.tx with
   | some t =>
     match t.kind with
     | .event => ∃ f q, s.lnk.queue = f :: q ∧ t.bytes = eventBytes (ownAddress s) f
     | .status => True
   | none => True) ∧
  s.lnk.queue.length ≤ 4 ∧ s.lnk.attempts ≤ 4 ∧
  (s.lnk.attempts = 4 ↔ s.lnk.holdoff.isSome = true) ∧
  (s.lnk.holdoff.isSome = true → s.lnk.link = .holdoff ∨ s.lnk.link = .lineFault) ∧
  (s.lnk.renewed = true → statusInFlight s = true) ∧
  (s.sup.mode = .conflict → s.lnk.queue = [] ∧ s.lnk.statusPending = false ∧ s.rli.tx = none) ∧
  LineTimersSafe s

/-! ## The peer roster (R56) -/

/-- The fields of one entry lie in the ranges of R56, and it is not the station's own. -/
def EntryInRange (s : State) (e : Entry) : Prop :=
  some e.address ≠ s.sup.ownAddr ∧ e.demand ≤ 2000 ∧ e.flow ≤ 2000 ∧
  (100 ≤ e.period ∧ e.period ≤ 1000 ∧ e.period % 50 = 0)

/-- The roster holds at most 24 entries in strictly ascending address order, none of them the station's own, each in range; and
ROSTER_OVERFLOW is set only while the roster is full (R56, R61). -/
def RosterSafe (s : State) : Prop :=
  s.ros.entries.length ≤ 24 ∧ s.ros.entries.Pairwise (fun a b => a.address.toNat < b.address.toNat) ∧
  (∀ e ∈ s.ros.entries, EntryInRange s e) ∧ (s.ros.overflow = true → s.ros.entries.length = 24)

/-- A frame from a peer that the roster takes: admitted on the line, its check good, its length right, its address not the own (R54). -/
def PeerFrameHeard (s : State) (bytes : List Byte) : Prop :=
  s.rli.tx = none ∧ frameAdmitted bytes s = true ∧ crc bytes.dropLast = bytes.getLastD 0 ∧
    wrongLength (rxFrameOf bytes) = false ∧ some (rxFrameOf bytes).src ≠ s.sup.ownAddr

/-- An edge of the station's own took the line low less than the filter's 2 µs ago, in a cell not sampled yet: the fall of another station
that came before it may still be taken (R21, R23, R35). -/
def OwnEdgeYoung (s : State) : Prop :=
  s.sup.cfg.rxFilter = true ∧ s.rli.rx = .inFrame ∧ s.rli.tx.isSome = true ∧ (∃ k, s.rli.cell = some k ∧ k.sampled = false) ∧
    ∃ n, s.rli.lowTime = some n ∧ n < 2

/-- The state in which a good frame of another station leaves the receiver and the link, before any block acts on it (R30, R39): the
frame emptied, SEEK_QUIET and WAIT_QUIET, or HOLDOFF throughout a holdoff. The line is high with no driver, quiet counted from the stop
cell's edge, 10 µs before, or, where that cell is the current one, from the last edge or the rise that its level shows (the model's
reading, log entries 12 and 40). -/
def afterGoodFrame (s : State) (bytes : List Byte) : State :=
  { s with
    rli := { s.rli with
      rx := .seekQuiet, cell := none, frame := { taken := [], cells := 0, shift := 0, check := 0xFF }
      lineLow := false, lowTime := none, driver := none
      quiet :=
        if (s.rli.cell.any fun k => !k.sampled) = true ∧ s.rli.frame.taken.length = bytes.length - 1 ∧ s.rli.frame.cells = 9 then
          (if s.rli.lineLow = true ∧ s.rli.quiet = .awaitRise then .running 0 else s.rli.quiet)
        else .running 10 }
    lnk := { s.lnk with link := if s.lnk.link = .holdoff then .holdoff else .waitQuiet } }

/-- n is s with another roster, and with the mode that a change notice, where there is one, has moved: ACTIVE and CONTAINED follow the
containment count of n, every other mode stays. A mode moved to is recorded, sets status-pending, with the renewed mark while a STATUS is
in flight, and starts the scan timer where it is stopped; all else is as in s (R7, R13, R42, R72, R85). -/
def NoticeTaken (s n : State) (notice : Prop) : Prop :=
  n = { s with
    ros := n.ros
    sup := { s.sup with mode := n.sup.mode }
    lnk := if n.sup.mode = s.sup.mode then s.lnk
      else { s.lnk with statusPending := true, renewed := s.lnk.renewed || statusInFlight s }
    dsu := if n.sup.mode = s.sup.mode then s.dsu
      else { s.dsu with scanTimer := some (s.dsu.scanTimer.getD (1000 * s.sup.cfg.scanPeriod)) }
    cap := if n.sup.mode = s.sup.mode then s.cap
      else appendRecord { time := s.clk.ms, body := .event (.mode n.sup.mode) } s.cap } ∧
  (¬notice → n.sup.mode = s.sup.mode) ∧
  (notice →
    (s.sup.mode ≠ .active → s.sup.mode ≠ .contained → n.sup.mode = s.sup.mode) ∧
    (s.sup.mode = .active ∨ s.sup.mode = .contained → s.sup.cfg.quorum ≠ 0 →
      n.sup.mode = if s.sup.cfg.quorum ≤ isolationCount n then .contained else .active) ∧
    (s.sup.cfg.quorum = 0 → n.sup.mode = s.sup.mode))

/-! ## The drip sensing unit (R73 to R87) -/

/-- A held reading is of its own enabled zone, with its figures in range and its state the one R80 gives. -/
def ReadingInRange (s : State) (z : Fin 4) (r : ZoneReading) : Prop :=
  r.zone = z ∧ s.sup.cfg.startZone.val ≤ z.val ∧ z.val ≤ s.sup.cfg.endZone.val ∧ r.ns ≤ 1048575 ∧ r.index ≤ 65535 ∧
  (r.state = .short → r.ns = 1048575 ∧ r.index = 65535) ∧
  (r.state = .openTape → r.index < s.sup.cfg.openThreshold) ∧
  (r.state = .normal → s.sup.cfg.openThreshold ≤ r.index)

/-- The working counts run exactly during a scan; a sensor phase is of an enabled zone and has a Tref; in REFERENCE Tref and the fault
count are still those from before the scan, and in a sensor phase the fault count is 0; rescan-pending stands only during a scan;
nothing runs in PARKED; every held reading is in range. -/
def DripSafe (s : State) : Prop :=
  (s.dsu.scan = .idle ↔ s.dsu.counter = none) ∧ (s.dsu.scan = .idle ↔ s.dsu.timeBase = none) ∧
  (∀ z, s.dsu.scan = .sensor z →
    s.sup.cfg.startZone.val ≤ z.val ∧ z.val ≤ s.sup.cfg.endZone.val ∧ s.dsu.tref.isSome = true) ∧
  (∀ n, s.dsu.tref = some n ∨ s.dsu.trefBefore = some n → 1 ≤ n ∧ n ≤ 1048574) ∧
  (s.dsu.scan = .reference → s.dsu.tref = s.dsu.trefBefore ∧ s.dsu.refFaults = s.dsu.refFaultsBefore) ∧
  (∀ z, s.dsu.scan = .sensor z → s.dsu.refFaults = 0) ∧
  (s.dsu.rescan = true → s.dsu.scan ≠ .idle) ∧ s.dsu.refFaults ≤ 255 ∧ s.dsu.refFaultsBefore ≤ 255 ∧
  (s.sup.mode = .parked → s.dsu.scan = .idle ∧ s.dsu.scanTimer = none) ∧
  (∀ z : Fin 4, ∀ r, s.dsu.latest[z] = some r → ReadingInRange s z r)

/-! ## The measurement unit (R90 to R102) -/

/-- A channel's value is in range and, when VALID, present with its fault mark clear; ΔP is in range; the period counter runs
exactly in TIMING; the window holds at most 3 periods of 1..500,000 µs; the flow is at most 2000. -/
def MeasureSafe (s : State) : Prop :=
  (∀ k : Fin 4, ∀ v, s.msu.chans[k].value = some v → -32768 ≤ v ∧ v ≤ 32767) ∧
  (∀ k : Fin 4, s.msu.chans[k].valid = true → s.msu.chans[k].value.isSome = true ∧ s.msu.chans[k].fault = false) ∧
  (∀ v, s.msu.deltaP = some v → -32768 ≤ v ∧ v ≤ 32767) ∧
  (s.msu.edge = .timing ↔ s.msu.period.isSome = true) ∧
  s.msu.window.length ≤ 3 ∧ (∀ p ∈ s.msu.window, 1 ≤ p ∧ p ≤ 500000) ∧ s.msu.flow ≤ 2000 ∧
  (match s.msu.adc with
   | .idle => s.msu.codes = []
   | .converting ch => s.msu.codes.length = ch.val)

/-! ## The watch engine (R105) -/

/-- The working state of one unit: its counters by its state, and its window timer (R105). -/
def UnitSafe (c : UnitConfig) (w : WatchUnit) : Prop :=
  (w.status = .disarmed → w.count = 0 ∧ c.arming ≠ .always) ∧ (w.status = .armed → w.count < c.countN) ∧
  (w.status = .fired → w.count = c.countN) ∧
  (w.clear ≠ 0 → w.status = .fired ∧ c.latch = .selfClear) ∧ w.clear < c.clearCount ∧
  (∀ us, w.window = some us → w.status = .armed ∧ c.arming ≠ .always ∧ us ≤ 1000 * c.window) ∧
  (c.source = .none → w.last = none)

/-- Every unit is as R105 states. -/
def WatchSafe (s : State) : Prop := ∀ u : Fin 8, UnitSafe s.sup.cfg.units[u] s.wch.units[u]

/-! ## The share computer (R127 to R139) -/

/-- The demand lies in Dmin..Dmax; the grant exceeds neither the demand nor the row capacity; duty, base duty and trim are in
range, and all 0 when the grant is 0; in PARKED the grant is 0. -/
def ShareSafe (s : State) : Prop :=
  s.sup.cfg.dmin ≤ s.shr.demand ∧ s.shr.demand ≤ s.sup.cfg.dmax ∧
  s.shr.grant ≤ s.shr.demand ∧ s.shr.grant ≤ s.sup.cfg.capacity ∧
  s.shr.baseDuty ≤ 1023 ∧ s.shr.duty ≤ 1023 ∧ -(s.sup.cfg.tmax : Int) ≤ s.shr.trim ∧ s.shr.trim ≤ s.sup.cfg.tmax ∧
  (s.shr.grant = 0 → s.shr.baseDuty = 0 ∧ s.shr.trim = 0 ∧ s.shr.duty = 0) ∧
  (s.sup.mode = .parked → s.shr.grant = 0)

/-! ## The valve drive (R142 to R151) -/

/-- The outputs follow the valve state (R146): the supply has a duty only in OPEN, the return is driven only in OPENING and OPEN;
each timer runs exactly in its own state; a reopening waits only in CLOSING. -/
def ValveSafe (s : State) : Prop :=
  (s.vlv.applied ≠ 0 → s.vlv.valve = .opened) ∧ (s.vlv.returnDrive ≠ .off ↔ s.vlv.valve = .opening ∨ s.vlv.valve = .opened) ∧
  (s.vlv.valve = .opening → s.vlv.returnDrive = .full) ∧
  (s.vlv.pendingDuty ≠ 0 → s.vlv.valve = .opening ∨ s.vlv.valve = .opened) ∧
  s.vlv.applied ≤ 1023 ∧ s.vlv.pendingDuty ≤ 1023 ∧
  (s.vlv.pullIn.isSome = true ↔ s.vlv.valve = .opening) ∧ (s.vlv.stroke.isSome = true ↔ s.vlv.valve = .closing) ∧
  (s.vlv.reopen = true → s.vlv.valve = .closing) ∧ (s.vlv.valve = .stuck → s.vlv.strokeFault = true)

/-! ## The capture history (R157 to R163) -/

/-- At most 256 records; a reason and a time exactly while FROZEN, a unit exactly for the watch engine's reasons; the decimation
count below the decimation. -/
def CaptureSafe (s : State) : Prop :=
  s.cap.ring.length ≤ 256 ∧ (s.cap.frozen = true ↔ s.cap.reason ≠ .none) ∧ (s.cap.time.isSome = s.cap.frozen) ∧
  (s.cap.unit.isSome = true ↔ s.cap.reason = .isolate ∨ s.cap.reason = .freezeUnit) ∧
  s.cap.count < s.sup.cfg.decimation

/-! ## The flags and the attention output (R19, R119, R173) -/

/-- WATCH_FIRED, SENSOR_FAULT and ATTN stand exactly while their conditions hold. -/
def FlagsSafe (s : State) : Prop :=
  s.sup.watchFired = anyFired s ∧ s.sup.sensorFault = sensorFaultNow s ∧ s.svc.attn = attnNow s

/-! ## A frame cell by cell -/

/-- Run commands one after another. -/
def runCommands : List Instr → State → Host.Outcome State Fault Refusal
  | [], s => .next s
  | c :: cs, s =>
    match exec c s with
    | .next t => runCommands cs t
    | .fault r => .fault r
    | .refused r => .refused r

/-- What a receiver sees of one cell (R22): low for 5 µs and then high for a 1, low for 15 µs and then high for a 0; the sample
point comes 10 µs after the edge. -/
def cellCommands (bit : Bool) : List Instr :=
  if bit then [.rowFallingEdge 5, .rowRisingEdge 15, .cellSamplePoint]
  else [.rowFallingEdge 15, .cellSamplePoint, .rowRisingEdge 5]

/-- What a receiver sees of a whole frame, up to the sample point of its last stop cell (R27). -/
def frameCommands (bytes : List Byte) : List Instr :=
  bytes.flatMap fun b => (List.range 10).flatMap fun c => cellCommands (byteCell b c)

/-! ## The whole -/

/-- Everything above together. -/
def Safe (s : State) : Prop :=
  ConfigSafe s ∧ StartingSafe s ∧ ModeSafe s ∧ LinkSafe s ∧ RosterSafe s ∧ DripSafe s ∧ MeasureSafe s ∧ WatchSafe s ∧
  ShareSafe s ∧ ValveSafe s ∧ CaptureSafe s ∧ FlagsSafe s

end Sys2Proof.Safety
end

