-- ==== Sys2Proof/Certificates/Slice0/Obligations.lean ====
section
/-! DEFINITION. The statements for the provers. Each docstring names the rules it rests on; a clause about something the manual
leaves open says so and names the log entry. -/

open Sys2Proof Sys2Proof.Machine Sys2Proof.Safety

/-! ## The step, reset and the load -/

/-- A step takes the command at the front of the queue and runs it on the rest. -/
def Obligations.StepRunsTheFrontCommand : Prop :=
  ∀ (c : Instr) (rest : List Instr) (s : State),
    step { s with pending := c :: rest } = exec c { s with pending := rest }

/-- On an empty queue (the model's choice, log entries 1, 4 and 14): nothing while RESET is low; the first event that is due is queued
alone; with none due a standing offer on an idle line is started at once; with neither, one µs passes. It is counted at the clock and at
every running timer and count: the driver, the quiet timer, the low-time measure and the cell's age; the join, announce, holdoff, scan,
acquisition, pull-in and stroke timers; the silences; the time base of a scan phase; the period counter; the windows outside PARKED. The
µs that completes a ms queues the start of the PWM period. All else stays.

The events due are exactly: the expiries of the timers that have run out; DRIVE_RELEASE at the end of the low time; a cell's sample point
at 10 µs and the transmitter's next cell at 20; GAP_TIMEOUT at 100 µs from the cell's edge (log entry 11); LINE_STUCK beyond 320 µs low;
QUIET at 160 µs with the line high; ENTRY_STALE at three periods, ENTRY_REMOVAL at eight; REFERENCE_FAULT at 1,048,575 ticks; NO_FLOW at
500,000 µs. -/
def Obligations.IdleStepCountsOneMicrosecond : Prop :=
  ∀ s : State, s.pending = [] →
    let down (t : Option Nat) : Option Nat := t.map (· - 1)
    let up (t : Option Nat) : Option Nat := t.map (· + 1)
    (s.clk.held = true → step s = .next s) ∧
    (s.clk.held = false →
      (∀ e es, dueEvents s = e :: es → step s = .next { s with pending := [e] }) ∧
      (dueEvents s = [] → s.rli.rx = .idle → (standingOffer s).isSome = true →
        step s = .next { s with pending := [.attemptStart] }) ∧
      (dueEvents s = [] → ¬(s.rli.rx = .idle ∧ (standingOffer s).isSome = true) → s.clk.us < 1000 →
        ∃ t, step s = .next t ∧
          t.clk = (if s.clk.us = 999 then { s.clk with us := 0, ms := s.clk.ms + 1 } else { s.clk with us := s.clk.us + 1 }) ∧
          t.pending = (if s.clk.us = 999 then [.periodStart] else []) ∧
          t.sup = { s.sup with joinTimer := down s.sup.joinTimer } ∧
          t.rli =
            { s.rli with
              driver := down s.rli.driver, lowTime := up s.rli.lowTime
              cell := s.rli.cell.map fun c => { c with age := c.age + 1 }
              quiet := match s.rli.quiet with
                | .stopped => .stopped
                | .awaitRise => .awaitRise
                | .running e => if e < 159 then .running (e + 1) else if s.rli.lineLow then .awaitRise else .running 160 } ∧
          t.lnk = { s.lnk with announce := down s.lnk.announce, holdoff := down s.lnk.holdoff } ∧
          t.ros = { s.ros with entries := s.ros.entries.map fun e => { e with silence := e.silence + 1 } } ∧
          t.dsu =
            { s.dsu with
              scanTimer := down s.dsu.scanTimer
              timeBase := match s.dsu.scan with
                | .idle => s.dsu.timeBase
                | .reference => up s.dsu.timeBase
                | .sensor _ => down s.dsu.timeBase } ∧
          t.msu = { s.msu with acqTimer := down s.msu.acqTimer, period := up s.msu.period } ∧
          (∀ u : Fin 8, t.wch.units[u] =
            { s.wch.units[u] with
              window := if s.sup.mode = .parked then s.wch.units[u].window else down s.wch.units[u].window }) ∧
          t.vlv = { s.vlv with pullIn := down s.vlv.pullIn, stroke := down s.vlv.stroke } ∧
          t.shr = s.shr ∧ t.cap = s.cap ∧ t.svc = s.svc)) ∧
    (∀ e : Instr, e ∈ dueEvents s ↔
      (s.sup.joinTimer = some 0 ∧ e = .joinTimerExpiry) ∨ (s.lnk.announce = some 0 ∧ e = .announceTimerExpiry) ∨
      (s.lnk.holdoff = some 0 ∧ e = .holdoffExpiry) ∨ (s.dsu.scanTimer = some 0 ∧ e = .scanTimerExpiry) ∨
      (s.msu.acqTimer = some 0 ∧ e = .acquisitionTimerExpiry) ∨
      (∃ u : Fin 8, s.sup.mode ≠ .parked ∧ s.wch.units[u].status = .armed ∧ s.wch.units[u].window = some 0 ∧
        e = .windowExpiry u) ∨
      (s.vlv.valve = .opening ∧ s.vlv.pullIn = some 0 ∧ e = .pullInExpiry) ∨
      (s.vlv.valve = .closing ∧ s.vlv.stroke = some 0 ∧ e = .strokeTimerExpiry) ∨
      (s.rli.driver = some 0 ∧ e = .driveRelease) ∨
      (∃ k, s.rli.rx = .inFrame ∧ s.rli.cell = some k ∧
        ((k.sampled = false ∧ 10 ≤ k.age ∧ e = .cellSamplePoint) ∨
          (k.sampled = true ∧ s.rli.tx ≠ none ∧ 20 ≤ k.age ∧ e = .transmitCellEdge) ∨
          (k.sampled = true ∧ s.rli.tx = none ∧ 100 ≤ k.age ∧ e = .gapTimeout))) ∨
      (∃ n, s.rli.lowTime = some n ∧ 320 < n ∧ s.rli.tx = none ∧
        (s.rli.rx = .seekQuiet ∨ s.rli.rx = .idle ∨ s.rli.rx = .inFrame) ∧ e = .lineStuck) ∨
      ((s.rli.rx = .seekQuiet ∨ s.rli.rx = .stuck) ∧ s.rli.quiet = .running 160 ∧ s.rli.lineLow = false ∧ e = .quiet) ∨
      (∃ x ∈ s.ros.entries,
        (x.liveness = .live ∧ 1000 * (3 * x.period) ≤ x.silence ∧ e = .entryStale x.address) ∨
          (1000 * (8 * x.period) ≤ x.silence ∧ e = .entryRemoval x.address)) ∨
      (∃ n, s.dsu.scan = .reference ∧ s.dsu.timeBase = some n ∧ 1048575 ≤ n ∧ e = .referenceFault) ∨
      (∃ n, s.msu.edge = .timing ∧ s.msu.period = some n ∧ 500000 ≤ n ∧ e = .noFlow))

/-- RESET leaves every block as its table of reset values says (R6, R20, R26, R56, R73, R90, R105, R127, R142, R157, R167, R173). The
level of the row line and the waiting commands are outside the part and stay (the model's choice, log entry 5), and CSN is high (log entry
37).

RESET_RELEASE samples the straps, starts the load with CSN low, and starts the time since start from 0; every other piece of state stays (R1,
R2, section 5.4). With RESET already high there is no release, and nothing changes (the model's choice, log entry 2). -/
def Obligations.ResetLeavesTheTableValuesAndReleaseSamplesTheStraps : Prop :=
  (∀ s : State, ∃ t, exec .reset s = .next t ∧
     (t.sup.mode = .starting ∧ t.sup.dryCheck = .none ∧ t.sup.joinTimer = none ∧ t.sup.joinExpired = false ∧
       t.sup.joinFaults = 0 ∧ t.sup.joinDegrade = false ∧ t.sup.ownAddr = none ∧ t.sup.ownSeg = none ∧
       t.sup.cfg = defaultConfig ∧ t.sup.configDefaulted = false ∧ t.sup.configAdjusted = false ∧
       stationFlags t = noFlags ∧ csnHigh t = true) ∧
     (t.lnk.link = .off ∧ t.lnk.queue = [] ∧ t.lnk.statusPending = false ∧ t.lnk.renewed = false ∧ t.lnk.attempts = 0 ∧
       t.lnk.announce = none ∧ t.lnk.holdoff = none ∧ t.lnk.lastError = .none) ∧
     (t.rli.driver = none ∧ t.rli.rx = .off ∧ t.rli.quiet = .stopped ∧ t.rli.tx = none ∧ t.rli.lineLow = s.rli.lineLow) ∧
     (t.ros.entries = [] ∧ t.ros.overflow = false) ∧
     (t.dsu.scan = .idle ∧ t.dsu.rescan = false ∧ t.dsu.scanNumber = 0 ∧ t.dsu.tref = none ∧ t.dsu.refFaults = 0 ∧
       (∀ z : Fin 4, t.dsu.latest[z] = none) ∧ t.dsu.scanTimer = none ∧ t.dsu.counter = none ∧ t.dsu.timeBase = none) ∧
     (t.msu.acqTimer = none ∧ t.msu.adc = .idle ∧
       (∀ k : Fin 4, t.msu.chans[k] = { value := none, valid := false, fault := false }) ∧ t.msu.deltaP = none ∧
       t.msu.period = none ∧ t.msu.edge = .awaitFirst ∧ t.msu.window = [] ∧ t.msu.flow = 0 ∧ t.msu.known = false) ∧
     (∀ u : Fin 8,
       t.wch.units[u] =
         { status := if u = 4 ∨ u = 6 then .disarmed else .armed, count := 0, clear := 0, window := none, last := none }) ∧
     (t.shr = { demand := 600, grant := 0, baseDuty := 0, trim := 0, duty := 0 }) ∧
     (t.vlv.valve = .closed ∧ t.vlv.applied = 0 ∧ t.vlv.pendingDuty = 0 ∧ t.vlv.pullIn = none ∧ t.vlv.stroke = none ∧
       t.vlv.reopen = false ∧ t.vlv.strokeFault = false ∧ t.vlv.returnDrive = .off ∧ ∀ us, supplyOn t.vlv us = false) ∧
     (t.cap = { frozen := false, ring := [], reason := .none, unit := none, time := none, count := 0 }) ∧
     t.svc.pendingAnswer = none ∧ t.svc.attn = false ∧ t.pending = s.pending) ∧
  (∀ (s : State) (addr : Address) (seg : Segment),
     (s.clk.held = true →
       exec (.resetRelease addr seg) s =
         .next { s with
           sup := { s.sup with ownAddr := some addr, ownSeg := some seg, loading := true }
           clk := { held := false, ms := 0, us := 0 } } ∧
       ∀ t, exec (.resetRelease addr seg) s = .next t → csnHigh t = false) ∧
     (s.clk.held = false → exec (.resetRelease addr seg) s = .next s))

/-- LOAD_END puts the checked and repaired set in force, ends STARTING and enters JOINING: the dry check PENDING, the join timer at
twice P_ann, a scan in its reference phase, the acquisition timer at 100 ms, the link in WAIT_QUIET with the receiver in
SEEK_QUIET, the demand set again, every watch unit fresh, and the first record of the capture. CSN was low and is high; the transfer has
been 225 bytes in 1800 SCK cycles, the read instruction 0x03 and the address 0x0000 sent and the image taken (R2, R6, R7, R8, R20, R91, R105, R127). -/
def Obligations.LoadEndEntersJoining : Prop :=
  ∀ (s : State) (image : List Byte), StartingSafe s → s.sup.loading = true → image.length = 222 →
    let l := loadImage image
    ∃ t, exec (.loadEnd image) s = .next t ∧
      t.sup =
        { s.sup with
          mode := .joining, dryCheck := .pending, joinTimer := some (1000 * (2 * l.cfg.pAnn)), joinExpired := false,
          joinFaults := 0, cfg := l.cfg, configDefaulted := l.defaulted, configAdjusted := l.adjusted, loading := false } ∧
      t.rli =
        { s.rli with rx := .seekQuiet, quiet := .running 0, lowTime := if s.rli.lineLow then some 0 else none } ∧
      t.lnk = { s.lnk with link := .waitQuiet } ∧ t.ros = s.ros ∧
      t.dsu =
        { s.dsu with
          scan := .reference, scanNumber := 1, counter := some 0, timeBase := some 0, trefBefore := s.dsu.tref,
          refFaultsBefore := s.dsu.refFaults } ∧
      t.msu = { s.msu with acqTimer := some 100000 } ∧
      (∀ u : Fin 8,
        t.wch.units[u] =
          { status := if l.cfg.units[u].arming = .always then .armed else .disarmed, count := 0, clear := 0,
            window := none, last := none }) ∧
      t.shr = { s.shr with demand := (clampInt l.cfg.dbase l.cfg.dmin l.cfg.dmax).toNat } ∧ t.vlv = s.vlv ∧
      t.cap =
        { s.cap with ring := if s.cap.frozen then [] else [{ time := s.clk.ms, body := .event (.mode .joining) }] } ∧
      t.svc = s.svc ∧ t.clk = s.clk ∧ t.pending = s.pending ∧ csnHigh s = false ∧ csnHigh t = true ∧
      (let transfer := loadTransfer image
       transfer.length = 225 ∧ sckCycles transfer = 1800 ∧ imageTaken transfer = image ∧
         (transfer.take 3).map (·.1) = [some 0x03, some 0x00, some 0x00])

/-- The image check (R3): any of the three checks failing gives the default of every field with CONFIG_DEFAULTED set and
CONFIG_ADJUSTED clear; with all three passing CONFIG_DEFAULTED is clear and the set is the tested and repaired one; an absent memory
gives the default set. -/
def Obligations.ImageCheckDefaultsTheWholeSet : Prop :=
  (∀ image : List Byte,
    (imageByte image 0 ≠ 0x6B ∨ imageByte image 1 ≠ 222 ∨
        256 * imageByte image 220 + imageByte image 221 ≠
          ((List.range 220).map (imageByte image)).sum % 65536) →
      loadImage image = { cfg := defaultConfig, defaulted := true, adjusted := false }) ∧
  (∀ image : List Byte,
    imageByte image 0 = 0x6B → imageByte image 1 = 222 →
    256 * imageByte image 220 + imageByte image 221 = ((List.range 220).map (imageByte image)).sum % 65536 →
      (loadImage image).defaulted = false ∧ (loadImage image).cfg = repair (testFields image).val) ∧
  loadImage (List.replicate 222 0xFF) = { cfg := defaultConfig, defaulted := true, adjusted := false }

/-- The fields of an image that passes the three checks (R4, R5). First each field is tested on its own (ImageFields of Safety.lean): in
range it is taken as it stands, out of range it takes its default. Then the relations are repaired: Dmax below Dmin takes the value of
Dmin; a table out of order defaults both tables; a channel with high at or below low takes both defaults; a start zone above the end zone
gives 0 and 3; an ISOLATE unit is LATCHED; a unit armed by itself, or a PEER_DRIP unit armed by the peer drip, is armed ALWAYS; every other
field stays. CONFIG_ADJUSTED is set exactly when a field was out of range or a relation broken.

So whatever the 222 bytes hold, the set in force after the load is in range in every field and keeps every relation of R5,
CONFIG_DEFAULTED and CONFIG_ADJUSTED are not both set, and the set in force stays in range at every step. -/
def Obligations.LoadedSetIsInRange : Prop :=
  (∀ image : List Byte, (loadImage image).defaulted = false →
    let c := (loadImage image).cfg
    ∃ t : ConfigSet, ImageFields image t ∧
      let tablesOk := (∀ k : Fin 8, t.flowPoints[k.val] < t.flowPoints[k.val + 1]) ∧
        ∀ k : Fin 8, t.dutyPoints[k.val] ≤ t.dutyPoints[k.val + 1]
      c =
        { t with
          dmax := if t.dmax < t.dmin then t.dmin else t.dmax
          flowPoints := c.flowPoints, dutyPoints := c.dutyPoints, analog := c.analog, units := c.units
          startZone := if t.endZone.val < t.startZone.val then 0 else t.startZone
          endZone := if t.endZone.val < t.startZone.val then 3 else t.endZone } ∧
      (tablesOk → c.flowPoints = t.flowPoints ∧ c.dutyPoints = t.dutyPoints) ∧
      (¬tablesOk →
        c.flowPoints = #v[0, 250, 500, 750, 1000, 1250, 1500, 1750, 2000] ∧
          c.dutyPoints = #v[120, 260, 380, 480, 570, 650, 730, 810, 900]) ∧
      (∀ k : Fin 4, c.analog[k] = if t.analog[k].high ≤ t.analog[k].low then { low := 0, high := 1000 } else t.analog[k]) ∧
      (∀ u : Fin 8, c.units[u] =
        { t.units[u] with
          latch := if t.units[u].action = .isolate then .latched else t.units[u].latch
          arming :=
            if t.units[u].arming = .afterUnit u ∨ (t.units[u].source = .peerDrip ∧ t.units[u].arming = .afterPeerDrip) then
              .always
            else t.units[u].arming }) ∧
      ((loadImage image).adjusted = true ↔
        ImageOutOfRange image ∨ t.dmax < t.dmin ∨ ¬tablesOk ∨ (∃ k : Fin 4, t.analog[k].high ≤ t.analog[k].low) ∨
          t.endZone.val < t.startZone.val ∨
          ∃ u : Fin 8,
            (t.units[u].action = .isolate ∧ t.units[u].latch = .selfClear) ∨ t.units[u].arming = .afterUnit u ∨
              (t.units[u].source = .peerDrip ∧ t.units[u].arming = .afterPeerDrip))) ∧
  (∀ image : List Byte,
    ConfigInRange (loadImage image).cfg ∧ ((loadImage image).defaulted && (loadImage image).adjusted) = false) ∧
  (∀ s t : State, ConfigSafe s → step s = .next t → ConfigSafe t)

/-- An image written from a set whose fields are in range loads as exactly that set, with neither flag set: no field is dropped or
changed on the way (R3, R4, R5, R176). -/
def Obligations.ConfigImageRoundTrip : Prop :=
  ∀ c : ConfigSet, ConfigInRange c → loadImage (configImage c) = { cfg := c, defaulted := false, adjusted := false }

/-- An event whose condition the state does not give is no event of the part, and changes nothing (the model's choice, log entry 2): an
expiry of a stopped timer, an edge that leaves the line's level (but a fall that came before an own edge, log entry 46), an end of a frame, an attempt, a phase, a conversion or a stroke that
is not in progress, an entry that is not held, a load that is not running; and the service port takes nothing while RESET is low. -/
def Obligations.EventsWithoutTheirConditionChangeNothing : Prop :=
  ∀ (s : State) (c : Instr),
    (s.sup.joinTimer = none ∧ c = .joinTimerExpiry) ∨ (s.lnk.announce = none ∧ c = .announceTimerExpiry) ∨
    (s.lnk.holdoff = none ∧ c = .holdoffExpiry) ∨ (s.dsu.scanTimer = none ∧ c = .scanTimerExpiry) ∨
    (s.msu.acqTimer = none ∧ c = .acquisitionTimerExpiry) ∨ (∃ u : Fin 8, s.wch.units[u].window = none ∧ c = .windowExpiry u) ∨
    (s.vlv.valve ≠ .opening ∧ c = .pullInExpiry) ∨ (s.vlv.valve ≠ .closing ∧ c = .strokeTimerExpiry) ∨
    (s.sup.loading = false ∧ ∃ image, c = .loadEnd image) ∨
    (s.rli.lineLow = true ∧ ¬OwnEdgeYoung s ∧ ∃ held, c = .startEdge held ∨ c = .rowFallingEdge held) ∨
    (s.rli.lineLow = false ∧ ∃ held, c = .rowRisingEdge held) ∨
    ((s.rli.rx ≠ .idle ∨ standingOffer s = none) ∧ c = .attemptStart) ∨
    (s.rli.rx ≠ .seekQuiet ∧ s.rli.rx ≠ .stuck ∧ c = .quiet) ∨
    ((s.rli.tx.isSome = true ∨ s.rli.rx = .off ∨ s.rli.rx = .stuck) ∧ c = .lineStuck) ∨
    ((s.rli.tx.isSome = true ∨ s.rli.rx ≠ .inFrame) ∧
      ((∃ cell, c = .frameError cell) ∨ (∃ len, c = .lengthError len) ∨ c = .gapTimeout)) ∨
    ((s.rli.tx = none ∨ s.rli.rx ≠ .inFrame) ∧
      ((∃ n, c = .lostArbitration n) ∨ (∃ b, c = .bitError b) ∨ c = .transmitCellEdge)) ∨
    (s.rli.rx ≠ .inFrame ∧ (c = .cellSamplePoint ∨ ∃ bytes, c = .goodFrame bytes)) ∨
    (∃ a, findEntry a s.ros.entries = none ∧ (c = .entryStale a ∨ c = .entryRemoval a)) ∨
    (s.dsu.scan ≠ .reference ∧ (c = .referenceFault ∨ ∃ n, c = .referencePhaseEnd n)) ∨
    ((∀ z, s.dsu.scan ≠ .sensor z) ∧ (c = .counterOverflow ∨ ∃ n, c = .sensorPhaseEnd n)) ∨
    (s.msu.adc = .idle ∧ ∃ code, c = .conversionEnd code) ∨ (s.msu.edge = .awaitFirst ∧ c = .noFlow) ∨
    (s.clk.held = true ∧
      (c = .ident ∨ c = .station ∨ c = .zones ∨ (∃ i, c = .watch i ∨ c = .roster i ∨ c = .capture i) ∨ c = .captureInfo ∨
        c = .release ∨ c = .acknowledge ∨ c = .scan ∨ c = .freeze ∨ c = .resume ∨ c = .park ∨ c = .unpark ∨
        c = .badRequest ∨ ∃ n, c = .serviceRead n)) →
    exec c s = .next s

/-- From reset release until the next reset no command changes the straps' values, and from the end of the load none changes the
configuration set (R1, R2). -/
def Obligations.StrapsAndConfigurationHold : Prop :=
  ∀ (c : Instr) (s t : State), s.clk.held = false → c ≠ .reset → exec c s = .next t →
    t.clk.held = false ∧ t.sup.ownAddr = s.sup.ownAddr ∧ t.sup.ownSeg = s.sup.ownSeg ∧
    (s.sup.loading = false → t.sup.loading = false ∧ t.sup.cfg = s.sup.cfg)

/-- JOIN_TIMER_EXPIRY in JOINING: with the dry check PASSED the station goes to ACTIVE, and on to CONTAINED at the quorum, with a
MODE record for each mode entered, status-pending set and the announce timer started; with it PENDING the expired mark is set and
the station stays (R7, R11, R13, R41, R85). -/
def Obligations.JoinTimerExpiryEndsTheJoin : Prop :=
  ∀ (s : State) (n : Nat), s.sup.mode = .joining → s.sup.joinTimer = some n →
    (s.sup.dryCheck = .passed →
      let contains := 1 ≤ s.sup.cfg.quorum ∧ s.sup.cfg.quorum ≤ isolationCount s
      ∃ t, exec .joinTimerExpiry s = .next t ∧
        t.sup = { s.sup with joinTimer := none, mode := if contains then .contained else .active } ∧
        t.lnk =
          { s.lnk with
            statusPending := true, renewed := s.lnk.renewed || statusInFlight s,
            announce := some (1000 * s.sup.cfg.pAnn) } ∧
        t.dsu = { s.dsu with scanTimer := some (s.dsu.scanTimer.getD (1000 * s.sup.cfg.scanPeriod)) } ∧
        t.cap =
          (let c := appendRecord { time := s.clk.ms, body := .event (.mode .active) } s.cap
           if contains then appendRecord { time := s.clk.ms, body := .event (.mode .contained) } c else c) ∧
        t.svc = { s.svc with attn := attnNow t } ∧ t.rli = s.rli ∧ t.ros = s.ros ∧ t.msu = s.msu ∧ t.wch = s.wch ∧
        t.shr = s.shr ∧ t.vlv = s.vlv ∧ t.clk = s.clk ∧ t.pending = s.pending) ∧
    (s.sup.dryCheck = .pending →
      exec .joinTimerExpiry s = .next { s with sup := { s.sup with joinTimer := none, joinExpired := true } })

/-! ## The link controller and the row line -/

/-- ANNOUNCE_TIMER_EXPIRY sets status-pending, marks it renewed while a STATUS is in flight (that it does so with status-pending set
already is the model's choice between R41 and R42, log entry 38), and starts the next period;
HOLDOFF_EXPIRY returns the attempt count to 0 and takes a link in HOLDOFF to the state matching the receiver, and leaves one in
LINE_FAULT there (R39, R41, R42, R52). -/
def Obligations.AnnounceAndHoldoffExpiry : Prop :=
  (∀ (s : State) (n : Nat), s.lnk.announce = some n →
    exec .announceTimerExpiry s =
      .next { s with
        lnk := { s.lnk with
          announce := some (1000 * s.sup.cfg.pAnn), statusPending := true,
          renewed := s.lnk.renewed || statusInFlight s } }) ∧
  (∀ (s : State) (n : Nat), s.lnk.holdoff = some n →
    (s.lnk.link = .holdoff →
      exec .holdoffExpiry s =
        .next { s with
          lnk := { s.lnk with
            attempts := 0, holdoff := none
            link := match s.rli.rx with
              | .off => .off
              | .seekQuiet => .waitQuiet
              | .idle => .idle
              | .inFrame => .receiving
              | .stuck => .lineFault } }) ∧
    (s.lnk.link = .lineFault →
      exec .holdoffExpiry s = .next { s with lnk := { s.lnk with attempts := 0, holdoff := none } }))

/-- What stands offered (R45, R46): nothing unless the link is IDLE; the queue's head in ACTIVE, CONTAINED and ISOLATED, and in PARKED
when it is a LEAVE; a STATUS in the three sending modes when the queue is empty and status-pending is set; nothing otherwise.

The offered frame starts at its start edge, the station's own on an idle line (ATTEMPT_START) or another station's that it joins
(START_EDGE; that ROW_FALLING_EDGE with the receiver IDLE is the same edge is the model's reading, log entry 13): the frame is composed
then and is in flight, the station drives the start cell's 0 for 15 µs, the receiver is IN_FRAME and the link SENDING; all else stays
(R22, R26, R35, R47, R48). Another station's edge is taken, and so joined, once the filter has let it through, and is dated 2 µs back with
the filter on (R23; that the command is that moment is the model's choice, log entries 7 and 44); that the joiner's pulse ends 15 µs
after the edge is so too (log entry 45). -/
def Obligations.OfferStandsByModeAndStartsAtTheStartEdge : Prop :=
  (∀ s : State,
     (standingOffer s = some .event ↔
       s.lnk.link = .idle ∧ s.lnk.queue ≠ [] ∧
         ((s.sup.mode = .active ∨ s.sup.mode = .contained ∨ s.sup.mode = .isolated) ∨
           (s.sup.mode = .parked ∧ s.lnk.queue.head? = some .leave))) ∧
     (standingOffer s = some .status ↔
       s.lnk.link = .idle ∧ s.lnk.queue = [] ∧ s.lnk.statusPending = true ∧
         (s.sup.mode = .active ∨ s.sup.mode = .contained ∨ s.sup.mode = .isolated))) ∧
  (∀ (s : State) (kind : TxKind), s.rli.rx = .idle → standingOffer s = some kind →
     let t (ago : Nat) : State :=
       { s with
         rli := { s.rli with
           driver := some (15 - ago), lineLow := true, rx := .inFrame, quiet := .running ago, lowTime := some ago,
           cell := some { age := ago, sampled := false }, frame := { taken := [], cells := 0, shift := 0, check := 0xFF },
           tx := some (composeFrame kind s) }
         lnk := { s.lnk with link := .sending } }
     exec .attemptStart s = .next (t 0) ∧
     (∀ held, s.rli.lineLow = false →
       (s.sup.cfg.rxFilter = false →
         exec (.startEdge held) s = .next (t 0) ∧ exec (.rowFallingEdge held) s = .next (t 0)) ∧
       (s.sup.cfg.rxFilter = true → 2 ≤ held →
         exec (.startEdge held) s = .next (t 2) ∧ exec (.rowFallingEdge held) s = .next (t 2))))

/-- A falling edge by the receiver's state (R21, R23 to R26, R39): not seen in OFF; restarts the quiet timer and the low-time measure in
SEEK_QUIET and STUCK; with no offer standing starts a frame in IDLE; in IN_FRAME belongs to a cell before its sample point and begins
the next after it, where a transmitting station drives its own bit. With the filter on a pulse shorter than 2 µs changes nothing, and any
other is taken when its level has held for 2 µs, and dated from its first moment: the quiet timer, the low-time measure and the cell
stand at 2 µs; with the filter off they stand at 0. A fall that came less than 2 µs before the station's own edge and is taken after it moves
the cell's edge back, but that of the start cell (the model's reading, log entry 46). The model's choices: the command is the moment of the
taking (log entries 7 and 44), and a pulse driven at another station's edge ends 5 or 15 µs after that edge (log entry 45);
START_EDGE and ROW_FALLING_EDGE are the same edge, so either acts by the state it finds (log entry 13); in OFF the level of the pin is
still recorded (log entry 5). -/
def Obligations.FallingEdgeActsByReceiverState : Prop :=
  ∀ (s : State) (held : Nat) (c : Instr), c = .startEdge held ∨ c = .rowFallingEdge held →
    let ago := if s.sup.cfg.rxFilter then 2 else 0
    (s.sup.cfg.rxFilter = true → held < 2 → exec c s = .next s) ∧
    (s.rli.lineLow = false → (s.sup.cfg.rxFilter = true → 2 ≤ held) →
      (s.rli.rx = .off → exec c s = .next { s with rli := { s.rli with lineLow := true } }) ∧
      (s.rli.rx = .seekQuiet ∨ s.rli.rx = .stuck →
        exec c s = .next { s with rli := { s.rli with lineLow := true, quiet := .running ago, lowTime := some ago } }) ∧
      (s.rli.rx = .idle → standingOffer s = none → s.rli.tx = none →
        exec c s =
          .next { s with
            rli := { s.rli with
              lineLow := true, quiet := .running ago, lowTime := some ago, rx := .inFrame,
              cell := some { age := ago, sampled := false },
              frame := { taken := [], cells := 0, shift := 0, check := 0xFF } }
            lnk := { s.lnk with link := if s.lnk.link = .holdoff then .holdoff else .receiving } }) ∧
      (∀ k, s.rli.rx = .inFrame → s.rli.cell = some k → k.sampled = false →
        exec c s = .next { s with rli := { s.rli with lineLow := true, quiet := .running ago, lowTime := some ago } }) ∧
      (∀ k, s.rli.rx = .inFrame → s.rli.cell = some k → k.sampled = true → s.rli.tx = none →
        exec c s =
          .next { s with
            rli := { s.rli with
              lineLow := true, quiet := .running ago, lowTime := some ago, cell := some { age := ago, sampled := false } } }) ∧
      (∀ k f, s.rli.rx = .inFrame → s.rli.cell = some k → k.sampled = true → s.rli.tx = some f →
        exec c s =
          .next { s with
            rli := { s.rli with
              lineLow := true, quiet := .running ago, lowTime := some ago, cell := some { age := ago, sampled := false },
              driver := some (if frameCell f.bytes s.rli.frame.taken.length s.rli.frame.cells then 5 - ago else 15 - ago) } })) ∧
    (s.rli.lineLow = true → OwnEdgeYoung s → 2 ≤ held →
      (s.rli.frame.taken = [] → s.rli.frame.cells = 0 →
        exec c s = .next { s with rli := { s.rli with quiet := .running 2, lowTime := some 2 } }) ∧
      (∀ f, s.rli.tx = some f → ¬(s.rli.frame.taken = [] ∧ s.rli.frame.cells = 0) →
        exec c s =
          .next { s with
            rli := { s.rli with
              quiet := .running 2, lowTime := some 2, cell := some { age := 2, sampled := false },
              driver := some (if frameCell f.bytes s.rli.frame.taken.length s.rli.frame.cells then 3 else 13) } }))

/-- QUIET takes the receiver from SEEK_QUIET to IDLE, and the link from WAIT_QUIET to IDLE; from STUCK to IDLE with the link going to
IDLE, or to HOLDOFF while the holdoff timer runs. LINE_STUCK takes the receiver from SEEK_QUIET, IDLE or IN_FRAME to STUCK with the
frame under reception discarded, and the link to LINE_FAULT with the error recorded; queue, status-pending and attempt count stay (R24,
R25, R39, R40, R55). The model's choices (log entry 12): the line's level and the quiet timer follow from the event, high and at 160 µs at
QUIET, low and waiting for the release at LINE_STUCK, and the low-time measure runs on into STUCK. -/
def Obligations.QuietAndLineStuckMoveTheReceiver : Prop :=
  ∀ s : State,
    (s.rli.rx = .seekQuiet →
      exec .quiet s =
        .next { s with
          rli := { s.rli with rx := .idle, lineLow := false, lowTime := none, quiet := .running 160 }
          lnk := { s.lnk with link := if s.lnk.link = .waitQuiet then .idle else s.lnk.link } }) ∧
    (s.rli.rx = .stuck →
      exec .quiet s =
        .next { s with
          rli := { s.rli with rx := .idle, lineLow := false, lowTime := none, quiet := .running 160 }
          lnk := { s.lnk with link := if s.lnk.holdoff = none then .idle else .holdoff } }) ∧
    (s.rli.rx = .seekQuiet ∨ s.rli.rx = .idle ∨ s.rli.rx = .inFrame → s.rli.tx = none →
      exec .lineStuck s =
        .next { s with
          rli := { s.rli with
            rx := .stuck, lineLow := true, cell := none, frame := { taken := [], cells := 0, shift := 0, check := 0xFF },
            lowTime := some (s.rli.lowTime.getD 0), quiet := .awaitRise }
          lnk := { s.lnk with link := .lineFault, lastError := .lineStuck } })

/-- GAP_TIMEOUT, FRAME_ERROR and LENGTH_ERROR, of a frame under reception: the frame is discarded whole, the error is the last link
error, the receiver goes to SEEK_QUIET and the link to WAIT_QUIET, or stays in HOLDOFF; the queue, status-pending, the attempt count,
the roster and every other block stay (R25, R27 to R29, R31, R39, R42, R55). The model's choices: each of them ends the frame from
whatever cell it stands at (log entry 9); a length that contradicts the length bits already sampled is no event (log entries 2 and 9); the
line's level follows from the event, and a low-time measure that runs goes on at the entry to SEEK_QUIET; an error in the current cell
counts quiet from the last edge, or from the edge that the level shows, one in a later cell from that cell's edge, 10 µs before (log entries 12 and 40).

GOOD_FRAME with a check byte that differs, or with a known kind of a wrong length: the frame is discarded, the receiver goes to
SEEK_QUIET and the link to WAIT_QUIET or stays in HOLDOFF, and CHECK_ERROR or LENGTH_ERROR is recorded; ATTN and every other block
stay (R30 to R32, R54, R55); the line is left high with no driver, its quiet timer as just said, of the last stop cell (log entries 12 and 40). -/
def Obligations.ReceptionErrorsDiscardTheFrame : Prop :=
  (∀ s : State, s.rli.rx = .inFrame → s.rli.tx = none →
     let after (e : LinkError) (low : Bool) (measure : Option Nat) (quiet : QuietTimer) : State :=
       { s with
         rli := { s.rli with
           rx := .seekQuiet, cell := none, frame := { taken := [], cells := 0, shift := 0, check := 0xFF },
           lineLow := low, lowTime := measure, quiet := quiet }
         lnk := { s.lnk with
           lastError := e, renewed := false, link := if s.lnk.link = .holdoff then .holdoff else .waitQuiet } }
     let running : Option Nat := some (s.rli.lowTime.getD 0)
     let waiting := (s.rli.cell.any fun k => !k.sampled) = true
     let high : QuietTimer := if s.rli.lineLow = true ∧ s.rli.quiet = .awaitRise then .running 0 else s.rli.quiet
     let low : QuietTimer := if s.rli.lineLow then s.rli.quiet else .running 0
     exec .gapTimeout s =
       .next (after .gapTimeout s.rli.lineLow (if s.rli.lineLow then running else s.rli.lowTime) s.rli.quiet) ∧
     exec (.frameError .startHigh) s =
       .next (after .frameError false none (if waiting ∧ s.rli.frame.cells = 0 then high else .running 10)) ∧
     exec (.frameError .stopLow) s =
       .next
         (if waiting ∧ s.rli.frame.cells = 9 then after .frameError true running low
         else after .frameError true (some 10) (.running 10)) ∧
     (∀ len : BitVec 4, 9 ≤ len.toNat →
       (lengthAgrees len s.rli.frame = true →
         exec (.lengthError len) s =
           .next (after .lengthError false none
             (if waiting ∧ s.rli.frame.taken.length = 1 ∧ s.rli.frame.cells = 9 then high else .running 10))) ∧
         (lengthAgrees len s.rli.frame = false → exec (.lengthError len) s = .next s))) ∧
  (∀ (s : State) (bytes : List Byte),
     s.rli.tx = none → s.svc.attn = attnNow s → frameAdmitted bytes s = true →
     let quiet : QuietTimer :=
       if (s.rli.cell.any fun k => !k.sampled) = true ∧ s.rli.frame.taken.length = bytes.length - 1 ∧ s.rli.frame.cells = 9 then
         (if s.rli.lineLow = true ∧ s.rli.quiet = .awaitRise then .running 0 else s.rli.quiet)
       else .running 10
     let after (e : LinkError) (renewed : Bool) : State :=
       { s with
         rli := { s.rli with
           rx := .seekQuiet, cell := none, frame := { taken := [], cells := 0, shift := 0, check := 0xFF },
           lineLow := false, lowTime := none, quiet := quiet, driver := none }
         lnk := { s.lnk with
           lastError := e, renewed := renewed, link := if s.lnk.link = .holdoff then .holdoff else .waitQuiet } }
     (crc bytes.dropLast ≠ bytes.getLastD 0 → exec (.goodFrame bytes) s = .next (after .checkError false)) ∧
     (crc bytes.dropLast = bytes.getLastD 0 → wrongLength (rxFrameOf bytes) = true →
       exec (.goodFrame bytes) s = .next (after .lengthError s.lnk.renewed)))

/-- The self-echo completes the attempt: the link goes to WAIT_QUIET with the attempt count 0; an event frame leaves the queue and
status-pending stays; a STATUS clears status-pending unless the renewed mark is set, and the mark clears; the roster and every other
block stay (R38, R42, R49). The line is left high, its low-time measure stopped and no driver on it, as the stop cell reads 1, and quiet is
counted from the stop cell's edge, 10 µs before, or, where that cell is the current one, from the last edge or the rise that its level
shows (the model's reading, log entries 12 and 40). -/
def Obligations.SelfEchoCompletesTheAttempt : Prop :=
  ∀ (s : State) (f : TxFrame),
    s.rli.tx = some f → s.svc.attn = attnNow s → frameAdmitted f.bytes s = true →
    crc f.bytes.dropLast = f.bytes.getLastD 0 →
    let quiet : QuietTimer :=
      if (s.rli.cell.any fun k => !k.sampled) = true ∧ s.rli.frame.taken.length = f.bytes.length - 1 ∧ s.rli.frame.cells = 9 then
        (if s.rli.lineLow = true ∧ s.rli.quiet = .awaitRise then .running 0 else s.rli.quiet)
      else .running 10
    let r : RowLine :=
      { s.rli with
        rx := .seekQuiet, cell := none, frame := { taken := [], cells := 0, shift := 0, check := 0xFF }, tx := none,
        lineLow := false, lowTime := none, quiet := quiet, driver := none }
    (f.kind = .event →
      exec (.goodFrame f.bytes) s =
        .next { s with rli := r, lnk := { s.lnk with link := .waitQuiet, attempts := 0, queue := s.lnk.queue.tail } }) ∧
    (f.kind = .status →
      exec (.goodFrame f.bytes) s =
        .next { s with
          rli := r
          lnk := { s.lnk with
            link := .waitQuiet, attempts := 0, statusPending := s.lnk.statusPending && s.lnk.renewed,
            renewed := false } })

/-- A good frame of the own address that the station did not send takes it to CONFLICT, from every mode after STARTING but CONFLICT:
the MODE record, the queue and status-pending emptied, the timers of the link and the join stopped, the attempt count 0, the scan
timer running; the roster, the units, the share values and the valve stay. In CONFLICT a further one changes the line's state only
(R7, R18, R41, R53, R54, R85, R140). The model's choices: the report is taken in ISOLATED as well (log entry 34), the dry-check state stays
(log entry 20), and the line is left high, its quiet timer as log entries 12 and
40 say; a link in HOLDOFF matches the receiver in SEEK_QUIET (log entry 41). -/
def Obligations.OwnAddressFrameEntersConflict : Prop :=
  ∀ (s : State) (bytes : List Byte),
    s.rli.tx = none → frameAdmitted bytes s = true → crc bytes.dropLast = bytes.getLastD 0 →
    wrongLength (rxFrameOf bytes) = false → some (rxFrameOf bytes).src = s.sup.ownAddr →
    let quiet : QuietTimer :=
      if (s.rli.cell.any fun k => !k.sampled) = true ∧ s.rli.frame.taken.length = bytes.length - 1 ∧ s.rli.frame.cells = 9 then
        (if s.rli.lineLow = true ∧ s.rli.quiet = .awaitRise then .running 0 else s.rli.quiet)
      else .running 10
    let r : RowLine :=
      { s.rli with
        rx := .seekQuiet, cell := none, frame := { taken := [], cells := 0, shift := 0, check := 0xFF },
        lineLow := false, lowTime := none, quiet := quiet, driver := none }
    (s.sup.mode ≠ .starting → s.sup.mode ≠ .conflict →
      ∃ t, exec (.goodFrame bytes) s = .next t ∧
        t.sup = { s.sup with mode := .conflict, joinTimer := none } ∧ t.rli = r ∧
        t.lnk =
          { s.lnk with
            link := .waitQuiet, queue := [], statusPending := false, renewed := false, attempts := 0, announce := none,
            holdoff := none } ∧
        t.dsu = { s.dsu with scanTimer := some (s.dsu.scanTimer.getD (1000 * s.sup.cfg.scanPeriod)) } ∧
        t.cap = appendRecord { time := s.clk.ms, body := .event (.mode .conflict) } s.cap ∧
        t.svc = { s.svc with attn := true } ∧ t.ros = s.ros ∧ t.msu = s.msu ∧ t.wch = s.wch ∧ t.shr = s.shr ∧
        t.vlv = s.vlv ∧ t.clk = s.clk ∧ t.pending = s.pending) ∧
    (s.sup.mode = .conflict → s.svc.attn = attnNow s →
      exec (.goodFrame bytes) s =
        .next { s with
          rli := r, lnk := { s.lnk with link := if s.lnk.link = .holdoff then .holdoff else .waitQuiet } })

/-- LOST_ARBITRATION ends the attempt uncounted: the station drives nothing more, its frame stays pending, and the receiver goes on
with the header bits the line has carried. BIT_ERROR raises the attempt count and sends the receiver to SEEK_QUIET; below 4 the link
goes to WAIT_QUIET; at 4 it goes to HOLDOFF for 50 ms with a HOLDOFF record, and a STATUS that failed clears status-pending (R36, R37,
R42, R50, R51). What the row line is left with is the model's choice: the line's level, the driver (none, or 5 µs to go), the cell of
10 µs, the bits assembled (log entry 10); quiet and the low-time measure counted from the cell's edge, 10 µs before, or, where the
current cell is the one, from the last edge or the one that the level shows (log entries 12 and 40). A BIT_ERROR with a 1 sampled is taken
even where no cell still to come is sent 0, which is the model's choice too (log entry 42). -/
def Obligations.LostArbitrationAndBitErrorEndTheAttempt : Prop :=
  ∀ (s : State) (f : TxFrame), s.rli.rx = .inFrame → s.rli.tx = some f →
    let waiting := (s.rli.cell.any fun k => !k.sampled) = true
    let current (n : Fin 16) := waiting ∧ s.rli.frame.taken.length = n.val / 8 ∧ s.rli.frame.cells = n.val % 8 + 1
    (∀ n : Fin 16,
      frameCell f.bytes (n.val / 8) (n.val % 8 + 1) = true →
      10 * s.rli.frame.taken.length + s.rli.frame.cells ≤ 10 * (n.val / 8) + (n.val % 8) + 1 →
      exec (.lostArbitration n) s =
        .next { s with
          rli := { s.rli with
            driver := none, lineLow := true, lowTime := some (if current n then s.rli.lowTime.getD 0 else 10), tx := none,
            quiet :=
              if ¬current n then .running 10 else if s.rli.lineLow then s.rli.quiet else .running 0
            cell :=
              if current n then s.rli.cell.map fun k => { k with sampled := true } else some { age := 10, sampled := true }
            frame := {
              taken := f.bytes.take (n.val / 8), cells := n.val % 8 + 2,
              shift := ((f.bytes.getD (n.val / 8) 0) >>> (7 - n.val % 8)) &&& 0xFE,
              check := crc (f.bytes.take (n.val / 8)) } }
          lnk := { s.lnk with link := .receiving, renewed := false } }) ∧
    (∀ sampled : Bool,
      let here := waiting ∧ frameCell f.bytes s.rli.frame.taken.length s.rli.frame.cells = (!sampled) ∧
        ¬(sampled = false ∧ s.rli.frame.taken.length < 2 ∧ 1 ≤ s.rli.frame.cells ∧ s.rli.frame.cells ≤ 8)
      let r : RowLine :=
        { s.rli with
          rx := .seekQuiet, cell := none, frame := { taken := [], cells := 0, shift := 0, check := 0xFF }, tx := none,
          lineLow := !sampled, lowTime := if sampled then none else some (if here then s.rli.lowTime.getD 0 else 10),
          quiet :=
            if ¬here then .running 10
            else if sampled then (if s.rli.lineLow = true ∧ s.rli.quiet = .awaitRise then .running 0 else s.rli.quiet)
            else if s.rli.lineLow then s.rli.quiet else .running 0
          driver := if sampled then some 5 else none }
      (s.lnk.attempts < 3 →
        exec (.bitError sampled) s =
          .next { s with
            rli := r
            lnk := { s.lnk with
              attempts := s.lnk.attempts + 1, lastError := .bitError, renewed := false, link := .waitQuiet } }) ∧
      (s.lnk.attempts = 3 →
        exec (.bitError sampled) s =
          .next { s with
            rli := r
            lnk := { s.lnk with
              attempts := 4, lastError := .bitError, renewed := false, link := .holdoff, holdoff := some 50000,
              statusPending := if f.kind = .status then false else s.lnk.statusPending }
            cap := appendRecord { time := s.clk.ms, body := .event .holdoff } s.cap }))

/-- CELL_SAMPLE_POINT reads the line's level as the cell's bit (R22, R27, R29, R30, R36, R37, R51): a start cell reading 0 opens the byte;
a data cell joins the byte; a wrong start or stop cell is a FRAME_ERROR for a receiver; a sender reading what it sent goes on; a 1 read as
0 in a header data cell is a lost arbitration; every other mismatch is a BIT_ERROR, the fourth of which starts the holdoff. A stop cell
reading 1 takes the byte: the second byte with a length above 8 is a LENGTH_ERROR; at the last byte the frame ends as GOOD_FRAME ends it;
otherwise the next byte begins, the check run over the byte. The low-time measure runs on at the entry to SEEK_QUIET (the model's
reading, log entry 12). -/
def Obligations.CellSampleReadsTheLine : Prop :=
  ∀ (s : State) (k : Cell), s.rli.rx = .inFrame → s.rli.cell = some k → k.sampled = false → s.svc.attn = attnNow s →
    let bit := !s.rli.lineLow
    let a := s.rli.frame
    let r : RowLine := { s.rli with cell := some { k with sampled := true } }
    let agrees := ∀ f, s.rli.tx = some f → frameCell f.bytes a.taken.length a.cells = bit
    (agrees → a.cells = 0 → bit = false →
      exec .cellSamplePoint s = .next { s with rli := { r with frame := { a with cells := 1, shift := 0 } } }) ∧
    (agrees → 1 ≤ a.cells → a.cells ≤ 8 →
      exec .cellSamplePoint s =
        .next { s with
          rli := { r with
            frame := { a with cells := a.cells + 1, shift := (a.shift <<< 1) ||| (if bit then 1 else 0) } } }) ∧
    (s.rli.tx = none → (a.cells = 0 ∧ bit = true ∨ a.cells = 9 ∧ bit = false) →
      exec .cellSamplePoint s =
        .next { s with
          rli := { s.rli with
            rx := .seekQuiet, cell := none, frame := { taken := [], cells := 0, shift := 0, check := 0xFF },
            lowTime := if s.rli.lineLow then some (s.rli.lowTime.getD 0) else s.rli.lowTime }
          lnk := { s.lnk with
            lastError := .frameError, renewed := false,
            link := if s.lnk.link = .holdoff then .holdoff else .waitQuiet } }) ∧
    (∀ f, s.rli.tx = some f → a.taken.length < 2 → 1 ≤ a.cells → a.cells ≤ 8 →
      frameCell f.bytes a.taken.length a.cells = true → bit = false →
      exec .cellSamplePoint s =
        .next { s with
          rli := { r with tx := none, frame := { a with cells := a.cells + 1, shift := a.shift <<< 1 } }
          lnk := { s.lnk with link := .receiving, renewed := false } }) ∧
    (∀ f, s.rli.tx = some f → frameCell f.bytes a.taken.length a.cells = !bit →
      ¬(bit = false ∧ a.taken.length < 2 ∧ 1 ≤ a.cells ∧ a.cells ≤ 8) → s.lnk.attempts < 3 →
      exec .cellSamplePoint s =
        .next { s with
          rli := { s.rli with
            rx := .seekQuiet, cell := none, frame := { taken := [], cells := 0, shift := 0, check := 0xFF }, tx := none,
            lowTime := if s.rli.lineLow then some (s.rli.lowTime.getD 0) else s.rli.lowTime }
          lnk := { s.lnk with
            attempts := s.lnk.attempts + 1, lastError := .bitError, renewed := false, link := .waitQuiet } }) ∧
    (∀ f, s.rli.tx = some f → frameCell f.bytes a.taken.length a.cells = !bit →
      ¬(bit = false ∧ a.taken.length < 2 ∧ 1 ≤ a.cells ∧ a.cells ≤ 8) → s.lnk.attempts = 3 →
      exec .cellSamplePoint s =
        .next { s with
          rli := { s.rli with
            rx := .seekQuiet, cell := none, frame := { taken := [], cells := 0, shift := 0, check := 0xFF }, tx := none,
            lowTime := if s.rli.lineLow then some (s.rli.lowTime.getD 0) else s.rli.lowTime }
          lnk := { s.lnk with
            attempts := 4, lastError := .bitError, renewed := false, link := .holdoff, holdoff := some 50000,
            statusPending := if f.kind = .status then false else s.lnk.statusPending }
          cap := appendRecord { time := s.clk.ms, body := .event .holdoff } s.cap }) ∧
    (agrees → a.cells = 9 → bit = true →
      let bytes := a.taken ++ [a.shift]
      let overlong := bytes.length = 2 ∧ 8 < frameLengthField bytes
      let whole := 3 ≤ bytes.length ∧ bytes.length = 3 + frameLengthField bytes
      (s.rli.tx = none → overlong →
        exec .cellSamplePoint s =
          .next { s with
            rli := { s.rli with
              rx := .seekQuiet, cell := none, frame := { taken := [], cells := 0, shift := 0, check := 0xFF } }
            lnk := { s.lnk with
              lastError := .lengthError, renewed := false,
              link := if s.lnk.link = .holdoff then .holdoff else .waitQuiet } }) ∧
      (¬overlong → ¬whole →
        exec .cellSamplePoint s =
          .next { s with
            rli := { r with
              frame := { taken := bytes, cells := 0, shift := 0, check := crcByte a.check a.shift } } }) ∧
      (whole → frameLengthField bytes ≤ 8 → a.check = crc a.taken → s.rli.lowTime = none → s.rli.driver = none →
        (∀ f, s.rli.tx = some f → f.bytes = bytes) →
        exec .cellSamplePoint s = exec (.goodFrame bytes) s))

/-- ROW_RISING_EDGE ends the low-time measure, and restarts the quiet timer where its 160 µs have run out on a low line, which in STUCK is
the release of the stuck line; it leaves the timer counting from the last fall otherwise, in STUCK too (the model's choice between R24 and
R25, log entry 31). With the filter on a high pulse shorter than 2 µs changes nothing, and any other rise is taken when its level has held
for 2 µs and is dated from its first moment (R23; that the command is the taking is the model's choice, log entries 7 and 44). TRANSMIT_CELL_EDGE drives the transmitter's next cell, 5 µs for a
1 and 15 µs for a 0, unless the line has already fallen since the sample point: from a high line the edge is a falling edge, which
restarts the quiet timer and the low-time measure; on a line held low there is no falling edge and both run on (that the cell begins
there all the same is the model's reading, log entry 32). DRIVE_RELEASE releases the driver (R21 to R25). -/
def Obligations.RisingEdgeAndOwnCellEdges : Prop :=
  (∀ (s : State) (held : Nat), s.rli.lineLow = true → (s.sup.cfg.rxFilter = true → 2 ≤ held) →
    exec (.rowRisingEdge held) s =
      .next { s with
        rli := { s.rli with
          lineLow := false, lowTime := none,
          quiet := if s.rli.quiet = .awaitRise then .running (if s.sup.cfg.rxFilter then 2 else 0) else s.rli.quiet } }) ∧
  (∀ (s : State) (held : Nat), s.sup.cfg.rxFilter = true → held < 2 → exec (.rowRisingEdge held) s = .next s) ∧
  (∀ (s : State) (f : TxFrame) (k : Cell), s.rli.rx = .inFrame → s.rli.tx = some f → s.rli.cell = some k →
    let driven : RowLine :=
      { s.rli with
        cell := some { age := 0, sampled := false }
        driver := some (if frameCell f.bytes s.rli.frame.taken.length s.rli.frame.cells then 5 else 15) }
    (k.sampled = true → s.rli.lineLow = false →
      exec .transmitCellEdge s =
        .next { s with rli := { driven with lineLow := true, quiet := .running 0, lowTime := some 0 } }) ∧
    (k.sampled = true → s.rli.lineLow = true → exec .transmitCellEdge s = .next { s with rli := driven }) ∧
    (k.sampled = false → exec .transmitCellEdge s = .next s)) ∧
  (∀ s : State, exec .driveRelease s = .next { s with rli := { s.rli with driver := none } })

/-- A whole frame received cell by cell, from the start edge on an idle line to the sample point of its last stop cell, leaves the
very state that START_EDGE and GOOD_FRAME with its bytes leave, whatever the frame says and whatever its check (R21, R22, R26, R27,
R29, R30). Its first cell begins with ROW_FALLING_EDGE on the idle line, which is the start edge (the model's reading, log entry 13). The
one difference is the quiet timer's count: no µs is counted between the commands, so it stands after the cells where the last edge has put it, at 2
with the filter on and at 0 with it off (R23), while GOOD_FRAME has it at the 10 µs from that edge to the sample point (log entry 40). -/
def Obligations.CellsReceivedMakeTheGoodFrame : Prop :=
  ∀ (s : State) (bytes : List Byte),
    s.rli.rx = .idle → s.rli.tx = none → s.rli.lineLow = false → s.rli.driver = none → standingOffer s = none →
    s.svc.attn = attnNow s → frameLengthField bytes ≤ 8 → bytes.length = 3 + frameLengthField bytes →
    ∃ t, runCommands [.startEdge 15, .goodFrame bytes] s = .next t ∧ t.rli.quiet = .running 10 ∧
      runCommands (frameCommands bytes) s = .next { t with rli := { t.rli with quiet := .running (if s.sup.cfg.rxFilter then 2 else 0) } }

/-- The outgoing event queue (R43, R44): below 4 entries a frame joins as the newest; at 4 it takes the newest one's place, whatever
the kinds, and the three older entries keep their order; the depth never exceeds 4 and the head stays. -/
def Obligations.FullQueueReplacesItsNewest : Prop :=
  ∀ (s : State) (f : EventFrame),
    (s.lnk.queue.length < 4 → (queueEvent f s).lnk.queue = s.lnk.queue ++ [f]) ∧
    (∀ a b c d, s.lnk.queue = [a, b, c, d] → (queueEvent f s).lnk.queue = [a, b, c, f]) ∧
    (s.lnk.queue.length ≤ 4 → (queueEvent f s).lnk.queue.length ≤ 4) ∧
    (s.lnk.queue ≠ [] → (queueEvent f s).lnk.queue.head? = s.lnk.queue.head?) ∧
    queueEvent f s = { s with lnk := { s.lnk with queue := (queueEvent f s).lnk.queue } }

/-- No command puts a frame in flight unless the link is IDLE and the mode permits that frame: a STATUS or the queue's head in ACTIVE,
CONTAINED and ISOLATED, only a LEAVE in PARKED, none in STARTING, JOINING and CONFLICT (R45, R48). -/
def Obligations.FrameBeginsOnlyByPermission : Prop :=
  ∀ (c : Instr) (s t : State) (f : TxFrame), exec c s = .next t → s.rli.tx = none → t.rli.tx = some f →
    s.lnk.link = .idle ∧ s.rli.rx = .idle ∧ t.lnk.link = .sending ∧ t.rli.rx = .inFrame ∧
    ((s.sup.mode = .active ∨ s.sup.mode = .contained ∨ s.sup.mode = .isolated) ∨
      (s.sup.mode = .parked ∧ f.bytes = eventBytes (ownAddress s) .leave)) ∧
    (f.kind = .event → ∃ g q, s.lnk.queue = g :: q ∧ f.bytes = eventBytes (ownAddress s) g) ∧
    (f.kind = .status → s.lnk.queue = [] ∧ s.lnk.statusPending = true)

/-! ## The peer roster -/

/-- A STATUS, CLEAR, LEAVE or unknown kind from a peer with an entry (R62, R64 to R66): the entry takes the fields the frame speaks
for, with silence 0 and LIVE, or is removed with ROSTER_OVERFLOW cleared; every other entry stays. There is a change notice when the
peer's mode, segment or liveness changed, or at a removal (R72): ACTIVE and CONTAINED then follow the containment count, with the MODE
record, status-pending and the scan timer of the mode moved to; without one the mode stays (R7, R13). ATTN is brought up to date, the
receiver and the link are as after any good frame, and all else stays (NoticeTaken and afterGoodFrame of Safety.lean; of the line after the
frame, log entries 12 and 40). -/
def Obligations.PeerFrameUpdatesItsEntry : Prop :=
  ∀ (s : State) (bytes : List Byte) (e : Entry),
    PeerFrameHeard s bytes → findEntry (rxFrameOf bytes).src s.ros.entries = some e →
    let f := rxFrameOf bytes
    let p := f.payload
    let leads (n : State) (notice : Prop) : Prop :=
      NoticeTaken (afterGoodFrame s bytes) n notice ∧
        exec (.goodFrame bytes) s = .next { n with svc := { s.svc with attn := attnNow n } }
    let put (n : State) (e' : Entry) : Prop :=
      n.ros = { s.ros with entries := s.ros.entries.map fun x => if x.address = f.src then
        { e' with address := x.address } else x }
    s.ros.entries.Pairwise (fun a b => a.address.toNat < b.address.toNat) →
    (f.kind = 1 →
      ∃ n, put n { e with
          mode := if p.getD 0 0 = 3 then .contained else if p.getD 0 0 = 4 then .isolated else .active
          flags := flagsOfByte (p.getD 1 0)
          demand := min (256 * (p.getD 2 0).toNat + (p.getD 3 0).toNat) 2000
          flow := min (256 * (p.getD 4 0).toNat + (p.getD 5 0).toNat) 2000
          segment := (p.getD 6 0).extractLsb' 4 4, zones := (p.getD 6 0).extractLsb' 0 4
          period := 50 * min (max (p.getD 7 0).toNat 2) 20
          silence := 0, liveness := .live } ∧
        ∃ e', findEntry f.src n.ros.entries = some e' ∧
          leads n (e.mode ≠ e'.mode ∨ e.segment ≠ e'.segment ∨ e.liveness = .stale)) ∧
    (f.kind = 3 → (p.getD 0 0).toNat ≤ 15 →
      ∃ n, put n { e with mode := .active, zones := 0, severity := some .none, silence := 0, liveness := .live } ∧
        leads n (e.mode ≠ .active ∨ e.liveness = .stale)) ∧
    (f.kind = 4 →
      ∃ n, n.ros = { entries := s.ros.entries.filter fun x => decide (x.address ≠ f.src), overflow := false } ∧
        leads n True) ∧
    (f.kind = 0 ∨ 5 ≤ f.kind.toNat ∨ (f.kind = 3 ∧ 15 < (p.getD 0 0).toNat) ∨ (f.kind = 2 ∧ 15 < (p.getD 0 0).toNat) →
      ∃ n, put n { e with silence := 0, liveness := .live } ∧ leads n (e.liveness = .stale))

/-- A frame from a peer without an entry (R59 to R61, R64 to R66): a STATUS is admitted in address order when fewer than 24 entries
are held, with a change notice (R72), after which ACTIVE and CONTAINED follow the containment count (R7, R13; NoticeTaken of Safety.lean);
at 24 it sets ROSTER_OVERFLOW with the entries and the mode as they were; a CLEAR, a LEAVE, an unknown kind or a DRIP whose segment is
above 15 changes nothing at the roster. ATTN is brought up to date, the receiver and the link are as after any good frame, and all else
stays (afterGoodFrame of Safety.lean; of the line after the frame, log entries 12 and 40). -/
def Obligations.PeerFrameAdmitsOrDeclines : Prop :=
  ∀ (s : State) (bytes : List Byte),
    PeerFrameHeard s bytes → findEntry (rxFrameOf bytes).src s.ros.entries = none →
    let f := rxFrameOf bytes
    let p := f.payload
    let leads (n : State) : Prop := exec (.goodFrame bytes) s = .next { n with svc := { s.svc with attn := attnNow n } }
    (f.kind = 1 → s.ros.entries.length < 24 →
      ∃ n before after, leads n ∧ NoticeTaken (afterGoodFrame s bytes) n True ∧
        s.ros.entries = before ++ after ∧ n.ros.overflow = s.ros.overflow ∧
        n.ros.entries =
          before ++
            { address := f.src, segment := (p.getD 6 0).extractLsb' 4 4
              mode := if p.getD 0 0 = 3 then .contained else if p.getD 0 0 = 4 then .isolated else .active
              flags := flagsOfByte (p.getD 1 0)
              demand := min (256 * (p.getD 2 0).toNat + (p.getD 3 0).toNat) 2000
              flow := min (256 * (p.getD 4 0).toNat + (p.getD 5 0).toNat) 2000
              zones := (p.getD 6 0).extractLsb' 0 4, period := 50 * min (max (p.getD 7 0).toNat 2) 20
              liveness := .live, silence := 0, severity := none } :: after ∧
        (∀ x ∈ before, x.address.toNat ≤ f.src.toNat) ∧ (∀ x, after.head? = some x → f.src.toNat < x.address.toNat)) ∧
    (f.kind = 1 → 24 ≤ s.ros.entries.length →
      leads { afterGoodFrame s bytes with ros := { s.ros with overflow := true } }) ∧
    (f.kind = 0 ∨ 3 ≤ f.kind.toNat ∨ (f.kind = 2 ∧ 15 < (p.getD 0 0).toNat) → leads (afterGoodFrame s bytes))

/-- A DRIP (R57, R60, R61, R63, R69, R72, R86, R106, R115). n is the state once the roster has taken it and containment is evaluated: a known
peer's entry has the frame's segment, zone mask and severity, ISOLATED where the severity is, silence 0 and LIVE, its other fields kept;
an unknown peer with fewer than 24 entries held is admitted in address order with the fields of R60; at 24 ROSTER_OVERFLOW is set; every
other entry stays. The mode follows the containment count when the entry is new or its mode, segment or liveness changed, with its MODE
record, and stays otherwise (NoticeTaken and afterGoodFrame of Safety.lean).

The model's choices: n leaves the line high with no driver, its quiet timer as log entries 12 and 40 say; a scan that starts
notes Tref and the fault count (log entry 33).

On the own segment it is a peer-drip arrival, whether or not it found or made an entry. The PEER_DRIP record is handed over in every mode.
In the modes that evaluate units every unit armed AFTER_PEER_DRIP then takes the arming event (a DISARMED one is ARMED with its window
running, an ARMED one has its window restarted, a FIRED one stays); the watch engine takes a PEER_DRIP sample of value the source address,
whose effects are those of deliverSample; and a scan starts or rescan-pending is set. In the other modes units and scans stay. On another
segment it is no arrival, and nothing follows n. -/
def Obligations.DripFrameReachesTheThreeBlocks : Prop :=
  ∀ (s : State) (bytes : List Byte),
    PeerFrameHeard s bytes → (rxFrameOf bytes).kind = 2 → ((rxFrameOf bytes).payload.getD 0 0).toNat ≤ 15 →
    let src := (rxFrameOf bytes).src
    let p := (rxFrameOf bytes).payload
    let seg : Segment := (p.getD 0 0).extractLsb' 0 4
    let sev : Severity := if p.getD 1 0 = 2 then .isolate else .alert
    let zones : BitVec 4 := (p.getD 2 0).extractLsb' 0 4
    let noted (n : State) (notice : Prop) : Prop := NoticeTaken (afterGoodFrame s bytes) n notice
    ∃ n t, exec (.goodFrame bytes) s = .next t ∧
      (∀ e, findEntry src s.ros.entries = some e →
        n.ros = { s.ros with
          entries := s.ros.entries.map fun x =>
            if x.address = src then
              { x with
                segment := seg, zones := zones, severity := some sev, silence := 0, liveness := .live
                mode := if sev = .isolate then .isolated else x.mode }
            else x } ∧
        noted n ((sev = .isolate ∧ e.mode ≠ .isolated) ∨ e.segment ≠ seg ∨ e.liveness = .stale)) ∧
      (findEntry src s.ros.entries = none → s.ros.entries.length < 24 →
        noted n True ∧ n.ros.overflow = s.ros.overflow ∧
        ∃ before after, s.ros.entries = before ++ after ∧
          n.ros.entries =
            before ++
              { address := src, segment := seg, mode := if sev = .isolate then .isolated else .active
                flags := noFlags, demand := 0, flow := 0, zones := zones, period := s.sup.cfg.pAnn, liveness := .live
                silence := 0, severity := some sev } :: after ∧
          (∀ x ∈ before, x.address.toNat ≤ src.toNat) ∧ (∀ x, after.head? = some x → src.toNat < x.address.toNat)) ∧
      (findEntry src s.ros.entries = none → 24 ≤ s.ros.entries.length →
        noted n False ∧ n.ros = { s.ros with overflow := true }) ∧
      (some seg ≠ s.sup.ownSeg → t = { n with svc := { s.svc with attn := attnNow t } }) ∧
      (some seg = s.sup.ownSeg →
        let recorded : State :=
          { n with cap := appendRecord { time := s.clk.ms, body := .event (.peerDrip src sev) } n.cap }
        (isEvaluating s.sup.mode = false → t = { recorded with svc := { s.svc with attn := attnNow t } }) ∧
        (isEvaluating s.sup.mode = true →
          ∃ a : State, a = { recorded with wch := a.wch } ∧
            (∀ u : Fin 8,
              let w := s.wch.units[u]
              let c := s.sup.cfg.units[u]
              (c.arming ≠ .afterPeerDrip ∨ w.status = .fired → a.wch.units[u] = w) ∧
              (c.arming = .afterPeerDrip → w.status = .disarmed →
                a.wch.units[u] =
                  { w with status := .armed, count := 0, window := if c.window = 0 then none else some (1000 * c.window) }) ∧
              (c.arming = .afterPeerDrip → w.status = .armed →
                a.wch.units[u] = { w with window := if c.window = 0 then w.window else some (1000 * c.window) })) ∧
            (let d := deliverSample .peerDrip src.toNat a
             t =
              { d with
                svc := { s.svc with attn := attnNow t }
                dsu := if s.dsu.scan = .idle then
                    { d.dsu with
                      scan := .reference, scanNumber := d.dsu.scanNumber + 1, counter := some 0, timeBase := some 0,
                      trefBefore := d.dsu.tref, refFaultsBefore := d.dsu.refFaults }
                  else { d.dsu with rescan := true } })))

/-- ENTRY_STALE makes a LIVE entry STALE and changes nothing else of any entry; ENTRY_REMOVAL takes the entry out and clears
ROSTER_OVERFLOW; each sends a change notice, after which ACTIVE and CONTAINED follow the containment count, with the MODE record,
status-pending, the renewed mark and the scan timer of the mode moved to (NoticeTaken of Safety.lean); ATTN is brought up to date, and all else stays (R7, R13,
R42, R67, R68, R72). -/
def Obligations.EntryAgeingMarksAndRemoves : Prop :=
  ∀ (s : State) (addr : Address) (e : Entry),
    s.ros.entries.Pairwise (fun a b => a.address.toNat < b.address.toNat) → findEntry addr s.ros.entries = some e →
    let leads (c : Instr) (n : State) : Prop :=
      NoticeTaken s n True ∧ exec c s = .next { n with svc := { s.svc with attn := attnNow n } }
    (e.liveness = .live → e.silence = 1000 * (3 * e.period) →
      ∃ n, leads (.entryStale addr) n ∧ isolationCount n = isolationCount s ∧ peerDemandSum n = peerDemandSum s ∧
        n.ros = { s.ros with entries := s.ros.entries.map fun x =>
          if x.address = addr then { x with liveness := .stale } else x }) ∧
    (e.silence = 1000 * (8 * e.period) →
      ∃ n, leads (.entryRemoval addr) n ∧
        n.ros = { entries := s.ros.entries.filter fun x => decide (x.address ≠ addr), overflow := false })

/-- What a station sends, a peer reads back: the bytes of a composed STATUS or of a queued event frame carry a right check and length,
the sender's address, the class and kind of R32, and the fields of R33 and R34 as the roster reads them (R30, R32 to R34, R47, R58,
R175). -/
def Obligations.SentFramesReadBackAtAPeer : Prop :=
  (∀ (s : State) (m : PeerMode),
    (s.sup.mode = .active ∧ m = .active ∨ s.sup.mode = .contained ∧ m = .contained ∨
      s.sup.mode = .isolated ∧ m = .isolated) →
    s.shr.demand ≤ 2000 → s.msu.flow ≤ 2000 → 2 ≤ s.sup.cfg.pAnnUnits → s.sup.cfg.pAnnUnits ≤ 20 →
    let bytes := (composeFrame .status s).bytes
    let f := rxFrameOf bytes
    bytes.length = 11 ∧ frameLengthField bytes = 8 ∧ crc bytes.dropLast = bytes.getLastD 0 ∧ wrongLength f = false ∧
      f.cls = 2 ∧ f.src = ownAddress s ∧ f.kind = 1 ∧
      readPeerFrame f.kind f.payload =
        .status (ownSegment s) m (stationFlags s) s.shr.demand (if s.msu.known then s.msu.flow else 0) (zoneMask s)
          (50 * s.sup.cfg.pAnnUnits)) ∧
  (∀ (src : Address) (e : EventFrame),
    let bytes := eventBytes src e
    let f := rxFrameOf bytes
    bytes.length = 3 + frameLengthField bytes ∧ crc bytes.dropLast = bytes.getLastD 0 ∧ wrongLength f = false ∧
      f.src = src ∧
      (∀ seg zones units, e = .drip seg .alert zones units →
        f.cls = 0 ∧ readPeerFrame f.kind f.payload = .drip seg .alert zones ∧ f.payload.getD 3 0 = units) ∧
      (∀ seg zones units, e = .drip seg .isolate zones units →
        f.cls = 0 ∧ readPeerFrame f.kind f.payload = .drip seg .isolate zones ∧ f.payload.getD 3 0 = units) ∧
      (∀ seg, e = .clear seg →
        f.cls = 0 ∧ readPeerFrame f.kind f.payload = .clear ∧ f.payload = [seg.setWidth 8]) ∧
      (e = .leave → f.cls = 1 ∧ readPeerFrame f.kind f.payload = .leave ∧ f.payload = []))

/-! ## The drip sensing unit and the dry check -/

/-- Triggers (R74, R84, R85). A trigger that finds the unit IDLE starts a scan in REFERENCE with the next number; during a scan a
scan-timer expiry is dropped and the SCAN command sets rescan-pending. The scan timer starts its next period at its expiry. SCAN is
answered OK in the modes that evaluate units, and refused WRONG_MODE without effect in STARTING and PARKED. What an abort would bring
back (Tref and the fault count as they stand when the scan starts) is noted with it (R87; log entry 33). -/
def Obligations.ScanTriggersStartOrWait : Prop :=
  ∀ s : State,
    let begun (d : DripUnit) : DripUnit :=
      { d with
        scan := .reference, scanNumber := d.scanNumber + 1, counter := some 0, timeBase := some 0, trefBefore := d.tref,
        refFaultsBefore := d.refFaults }
    let ok : Service := { s.svc with pendingAnswer := some { result := .ok, item := [] } }
    (∀ n, s.dsu.scanTimer = some n →
      let d : DripUnit := { s.dsu with scanTimer := some (1000 * s.sup.cfg.scanPeriod) }
      (s.dsu.scan = .idle → exec .scanTimerExpiry s = .next { s with dsu := begun d }) ∧
      (s.dsu.scan ≠ .idle → exec .scanTimerExpiry s = .next { s with dsu := d })) ∧
    (s.clk.held = false →
      s.sup.mode = .joining ∨ s.sup.mode = .active ∨ s.sup.mode = .contained ∨ s.sup.mode = .isolated ∨
        s.sup.mode = .conflict →
      (s.dsu.scan = .idle → exec .scan s = .next { s with dsu := begun s.dsu, svc := ok }) ∧
      (s.dsu.scan ≠ .idle → exec .scan s = .next { s with dsu := { s.dsu with rescan := true }, svc := ok })) ∧
    (s.clk.held = false → s.sup.mode = .starting ∨ s.sup.mode = .parked →
      exec .scan s =
        .next { s with svc := { s.svc with pendingAnswer := some { result := .wrongMode, item := [] } } })

/-- REFERENCE_PHASE_END below 1,048,575 ticks (R19, R75, R88): the count becomes Tref, the reference-fault count 0 and the join-degrade
contribution ends, SENSOR_FAULT and ATTN are brought up to date, and the sensor phase of the start zone begins with the time base
loaded with Tref. At 1,048,575 or more there is no such event, and nothing changes (the model's choice, log entry 2). -/
def Obligations.ReferencePhaseEndStartsTheSensorPhases : Prop :=
  ∀ (s : State) (b ticks : Nat), s.dsu.scan = .reference → s.dsu.timeBase = some b → 1 ≤ b + ticks →
    (b + ticks ≤ 1048574 →
      ∃ t, exec (.referencePhaseEnd ticks) s = .next t ∧
        t.dsu =
          { s.dsu with
            tref := some (b + ticks), refFaults := 0, scan := .sensor s.sup.cfg.startZone, counter := some 0,
            timeBase := some (b + ticks) } ∧
        t.sup = { s.sup with joinDegrade := false, sensorFault := sensorFaultNow t } ∧
        t.svc = { s.svc with attn := attnNow t } ∧ t.rli = s.rli ∧ t.lnk = s.lnk ∧ t.ros = s.ros ∧ t.msu = s.msu ∧
        t.wch = s.wch ∧ t.shr = s.shr ∧ t.vlv = s.vlv ∧ t.cap = s.cap ∧ t.clk = s.clk ∧ t.pending = s.pending) ∧
    (1048575 ≤ b + ticks → exec (.referencePhaseEnd ticks) s = .next s)

/-- REFERENCE_FAULT (R10 to R12, R76, R83, R85). The fault count rises, saturating at 255, the REF_FAULT record is handed over,
SENSOR_FAULT is set, and the scan ends: IDLE, or the rescan at once; the readings and Tref stay. Outside a waiting dry check that is all,
but that in JOINING, where the check has passed, the scan timer is started.

While the dry check of a join waits, the join fault count rises. Below 3 a scan is asked for at once, after the end of the faulted one
(the model's reading, log entry 18). At 3 the degrade contribution is set: with no FIRED ISOLATE unit the check passes and the valve is
asked to open, and when the join timer has expired the station goes to ACTIVE, or on to CONTAINED at the quorum; with one the check is
FAILED and the station ISOLATED, the join timer stopped, the valve asked to close, one DRIP with severity ISOLATE queued, no unit
changed. The order of MODE and VALVE records is the model's choice: MODE first on an entry to
ISOLATED (log entry 16), VALVE first where the check passes (log entry 35). -/
def Obligations.ReferenceFaultEndsTheScan : Prop :=
  ∀ s : State, s.dsu.scan = .reference →
    let faults := min (s.dsu.refFaults + 1) 255
    let record (e : CaptureEvent) (c : Capture) : Capture := appendRecord { time := s.clk.ms, body := .event e } c
    let faulted : Capture := record .refFault s.cap
    let running : Option Nat := some (s.dsu.scanTimer.getD (1000 * s.sup.cfg.scanPeriod))
    let begun (d : DripUnit) : DripUnit :=
      { d with
        scan := .reference, scanNumber := d.scanNumber + 1, counter := some 0, timeBase := some 0, trefBefore := d.tref,
        refFaultsBefore := d.refFaults }
    let ended (timer : Option Nat) : DripUnit :=
      let d : DripUnit := { s.dsu with refFaults := faults, scanTimer := timer }
      if s.dsu.rescan then begun { d with rescan := false } else { d with scan := .idle, counter := none, timeBase := none }
    let frame (t : State) : Prop :=
      t.svc = { s.svc with attn := true } ∧ t.rli = s.rli ∧ t.ros = s.ros ∧ t.msu = s.msu ∧ t.wch = s.wch ∧
        t.shr = s.shr ∧ t.clk = s.clk ∧ t.pending = s.pending
    let sending : Link :=
      { s.lnk with
        statusPending := true, renewed := s.lnk.renewed || statusInFlight s, announce := some (1000 * s.sup.cfg.pAnn) }
    let wet := ∃ u : Fin 8, s.wch.units[u].status = .fired ∧ s.sup.cfg.units[u].action = .isolate
    let contains := 1 ≤ s.sup.cfg.quorum ∧ s.sup.cfg.quorum ≤ isolationCount s
    let opened : State := openRequest { s with cap := faulted }
    (¬(s.sup.mode = .joining ∧ s.sup.dryCheck = .pending) →
      ∃ t, exec .referenceFault s = .next t ∧ frame t ∧
        t.dsu = ended (if s.sup.mode = .joining then running else s.dsu.scanTimer) ∧ t.cap = faulted ∧
        t.sup = { s.sup with sensorFault := true } ∧ t.lnk = s.lnk ∧ t.vlv = s.vlv) ∧
    (s.sup.mode = .joining → s.sup.dryCheck = .pending →
      (s.sup.joinFaults < 2 →
        ∃ t, exec .referenceFault s = .next t ∧ frame t ∧
          t.sup = { s.sup with joinFaults := s.sup.joinFaults + 1, sensorFault := true } ∧
          t.dsu = begun { s.dsu with refFaults := faults, scanTimer := running } ∧
          t.cap = faulted ∧ t.lnk = s.lnk ∧ t.vlv = s.vlv) ∧
      (s.sup.joinFaults = 2 → ¬wet → s.sup.joinExpired = false →
        ∃ t, exec .referenceFault s = .next t ∧ frame t ∧
          t.sup = { s.sup with joinFaults := 3, joinDegrade := true, dryCheck := .passed, sensorFault := true } ∧
          t.dsu = ended running ∧ t.cap = opened.cap ∧ t.lnk = s.lnk ∧ t.vlv = opened.vlv) ∧
      (s.sup.joinFaults = 2 → ¬wet → s.sup.joinExpired = true →
        ∃ t, exec .referenceFault s = .next t ∧ frame t ∧
          t.sup =
            { s.sup with
              joinFaults := 3, joinDegrade := true, dryCheck := .passed, sensorFault := true
              mode := if contains then .contained else .active } ∧
          t.dsu = ended running ∧ t.lnk = sending ∧ t.vlv = opened.vlv ∧
          t.cap =
            (let c := record (.mode .active) opened.cap
             if contains then record (.mode .contained) c else c)) ∧
      (s.sup.joinFaults = 2 → wet →
        ∃ t, exec .referenceFault s = .next t ∧ frame t ∧
          t.sup =
            { s.sup with
              joinFaults := 3, joinDegrade := true, dryCheck := .failed, joinTimer := none, sensorFault := true
              mode := .isolated } ∧
          t.dsu = ended running ∧
          t.lnk =
            { sending with
              queue := enqueueFrame (.drip (ownSegment s) .isolate (zoneMask s) (unitMask s)) s.lnk.queue } ∧
          t.vlv = (closeRequest s).vlv ∧
          t.cap = (closeRequest { s with cap := record (.mode .isolated) faulted }).cap))

/-- A sensor phase ends by the time base (SENSOR_PHASE_END) or by overflow (COUNTER_OVERFLOW) (R77 to R83, R85): the reading, with G the
floor of Ns × 1000 / M held at 65535 and its state by R80, is the zone's latest; its ZONE record is handed over; the watch engine takes G
as a sample of the zone, with the effects of deliverSample; SENSOR_FAULT and ATTN are brought up to date. Below the end zone the next
phase then starts with the time base loaded with Tref; at the end zone, with no dry check waiting any more (a unit that fires on the
reading may have ended the join), the scan ends, or the rescan starts at once with the next number, and in JOINING the scan timer is
started where it is stopped. With no unit watching the zone, units, valve and
link stay. -/
def Obligations.ZoneReadingIsFormedAndDelivered : Prop :=
  ∀ (s : State) (z : Fin 4) (b cycles : Nat), s.dsu.scan = .sensor z → s.dsu.counter = some b →
    let ns := b + cycles
    let g := min (ns * 1000 / s.sup.cfg.mCycles) 65535
    let counted : ZoneReading :=
      { zone := z, ns := ns, index := g, state := if g < s.sup.cfg.openThreshold then .openTape else .normal,
        scan := s.dsu.scanNumber, time := s.clk.ms }
    let short : ZoneReading :=
      { zone := z, ns := 1048575, index := 65535, state := .short, scan := s.dsu.scanNumber, time := s.clk.ms }
    ∀ (c : Instr) (r : ZoneReading),
      (c = .sensorPhaseEnd cycles ∧ ns ≤ 1048575 ∧ r = counted) ∨ (c = .counterOverflow ∧ r = short) →
      let taken : State :=
        { s with
          dsu := { s.dsu with latest := s.dsu.latest.set z (some r) }
          cap := appendRecord { time := s.clk.ms, body := .zone z r.index r.state r.scan } s.cap }
      let d := deliverSample (.zone z) r.index taken
      let delivered (t : State) (dsu : DripUnit) : Prop :=
        t =
          { d with
            dsu := dsu
            sup := { d.sup with sensorFault := sensorFaultNow t }
            svc := { s.svc with attn := attnNow t } }
      (z.val < s.sup.cfg.endZone.val →
        ∃ t, exec c s = .next t ∧
          delivered t { d.dsu with scan := .sensor (z + 1), counter := some 0, timeBase := s.dsu.tref }) ∧
      (s.sup.cfg.endZone.val ≤ z.val → ¬(d.sup.mode = .joining ∧ d.sup.dryCheck = .pending) →
        let timer : Option Nat :=
          if d.sup.mode = .joining then some (d.dsu.scanTimer.getD (1000 * s.sup.cfg.scanPeriod)) else d.dsu.scanTimer
        ∃ t, exec c s = .next t ∧
          (s.dsu.rescan = false →
            delivered t { d.dsu with scan := .idle, counter := none, timeBase := none, scanTimer := timer }) ∧
          (s.dsu.rescan = true →
            delivered t
              { d.dsu with
                rescan := false, scan := .reference, counter := some 0, timeBase := some 0, scanTimer := timer
                scanNumber := s.dsu.scanNumber + 1, trefBefore := s.dsu.tref, refFaultsBefore := s.dsu.refFaults })) ∧
      d.dsu = { taken.dsu with scanTimer := d.dsu.scanTimer } ∧ d.rli = s.rli ∧ d.ros = s.ros ∧ d.msu = s.msu ∧
      d.shr = s.shr ∧ d.clk = s.clk ∧ d.pending = s.pending ∧
      ((∀ u : Fin 8, s.sup.cfg.units[u].source ≠ .zone z) → d = taken)

/-- The resolution of a waiting dry check (R9, R12, R44, R78, R83, R111, R122, R124): it comes at the end of the last sensor phase, by the
time base or by overflow, its reading delivered, before the scan ends. An ISOLATE unit that fires on that reading as an ordinary sample
ends the join first: the station is ISOLATED with the check FAILED and the join timer stopped, and the resolution does nothing. A unit
qualifies when its arming is ALWAYS, its action ISOLATE, its source a scanned zone, and this scan's reading of that zone meets its
comparison. With no qualifying unit and no FIRED ISOLATE unit it is PASSED: an OPEN request, and ACTIVE or CONTAINED
at once when the join timer had expired. Otherwise it is FAILED: every qualifying unit is FIRED with its counter at N, the first of them
to fire freezing the capture, the station is ISOLATED with the join timer stopped and the valve asked to close, and one DRIP with severity
ISOLATE joins the queue, or takes the newest place of a full one. -/
def Obligations.DryCheckResolvesTheJoin : Prop :=
  (∀ (s : State) (z : Fin 4) (b cycles : Nat) (c : Instr) (r : ZoneReading),
    s.dsu.scan = .sensor z → s.dsu.counter = some b → s.sup.cfg.endZone.val ≤ z.val →
    (c = .sensorPhaseEnd cycles ∧ b + cycles ≤ 1048575 ∧ r = countedReading s z (b + cycles)) ∨
      (c = .counterOverflow ∧ r = shortReading s z) →
    let d := deliverReading r s
    (d.sup.mode = .joining → d.sup.dryCheck = .pending → exec c s = .next (updateAttn (endScan (resolveDryCheck d)))) ∧
    (¬(d.sup.mode = .joining ∧ d.sup.dryCheck = .pending) → exec c s = .next (updateAttn (endScan d))) ∧
    (∀ u : Fin 8, s.sup.mode = .joining → s.sup.dryCheck = .pending → s.sup.cfg.units[u].action = .isolate →
      isFired s u = false → isFired d u = true →
        d.sup.mode = .isolated ∧ d.sup.dryCheck = .failed ∧ d.sup.joinTimer = none)) ∧
  (∀ (s : State) (u : Fin 8),
    (qualifiesInDryCheck s u = true ↔
      s.sup.cfg.units[u].arming = .always ∧ s.sup.cfg.units[u].action = .isolate ∧
        ∃ (z : Fin 4) (r : ZoneReading), s.sup.cfg.units[u].source = .zone z ∧
          s.sup.cfg.startZone.val ≤ z.val ∧ z.val ≤ s.sup.cfg.endZone.val ∧
          s.dsu.latest[z] = some r ∧ r.scan = s.dsu.scanNumber ∧ meetsComparison s.sup.cfg.units[u] r.index = true) ∧
    (isFiredIsolate s u = true ↔ s.wch.units[u].status = .fired ∧ s.sup.cfg.units[u].action = .isolate)) ∧
  ∀ s : State, s.sup.mode = .joining → s.sup.dryCheck = .pending →
    let clean := (∀ u : Fin 8, qualifiesInDryCheck s u = false) ∧ (∀ u : Fin 8, isFiredIsolate s u = false)
    let t := resolveDryCheck s
    (clean →
      t.sup.dryCheck = .passed ∧ t.wch = s.wch ∧ t.vlv = (openRequest s).vlv ∧
      (s.sup.joinExpired = false → t.sup.mode = .joining ∧ t.lnk = s.lnk ∧ t.sup.joinTimer = s.sup.joinTimer) ∧
      (s.sup.joinExpired = true →
        t.lnk.statusPending = true ∧
        t.sup.mode =
          if 1 ≤ s.sup.cfg.quorum ∧ s.sup.cfg.quorum ≤ isolationCount s then .contained else .active)) ∧
    (¬clean →
      t.sup.dryCheck = .failed ∧ t.sup.joinTimer = none ∧ t.sup.mode = .isolated ∧
      (∀ u : Fin 8, qualifiesInDryCheck s u = true →
        t.wch.units[u].status = .fired ∧
          (isFired s u = false → t.wch.units[u].count = s.sup.cfg.units[u].countN)) ∧
      (∀ u : Fin 8, qualifiesInDryCheck s u = true → isFired s u = false → s.cap.frozen = false →
        (∀ k : Fin 8, k.val < u.val → qualifiesInDryCheck s k = true → isFired s k = true) →
        t.cap.frozen = true ∧ t.cap.reason = .isolate ∧ t.cap.unit = some u ∧ t.cap.time = some s.clk.ms) ∧
      t.vlv = (closeRequest s).vlv ∧
      t.lnk.queue = enqueueFrame (.drip (ownSegment s) .isolate (zoneMask t) (unitMask t)) s.lnk.queue)

/-! ## The measurement unit and the share computer -/

/-- The analog scan (R91 to R95). ACQUISITION_TIMER_EXPIRY starts the next 100 ms period and a scan at channel 0; a conversion of
channels 0 to 2 keeps its code aside and applies none; that of channel 3 applies all four: a code in 16..4079 gives the value
L + floor((H − L) × c / 4095), VALID, with the fault mark clear, any other leaves the value held, INVALID, with the mark set; ΔP is
the difference of channels 2 and 3 held in the 16-bit range when both are VALID, and absent otherwise.

Then the set of the scan is delivered (R96 to R98, R128, R138): SENSOR_FAULT is brought up to date; the watch engine takes the supply
temperature and the return temperature where VALID and ΔP where present, with the effects of deliverSample (their order is the model's
reading, log entry 15); in JOINING, ACTIVE, CONTAINED and ISOLATED the share computer makes a control step on the set; in PARKED and
CONFLICT the capture history alone is told of the processed set. -/
def Obligations.AnalogScanAppliesItsCodesTogether : Prop :=
  (∀ (s : State) (n : Nat), s.msu.acqTimer = some n → s.msu.adc = .idle →
    exec .acquisitionTimerExpiry s =
      .next { s with msu := { s.msu with acqTimer := some 100000, adc := .converting 0, codes := [] } }) ∧
  (∀ (s : State) (ch : Fin 4) (code : BitVec 12), s.msu.adc = .converting ch → ch.val < 3 →
    exec (.conversionEnd code) s =
      .next { s with msu := { s.msu with adc := .converting (ch + 1), codes := s.msu.codes ++ [code] } }) ∧
  (∀ (s : State) (c0 c1 c2 c3 : BitVec 12), s.msu.adc = .converting 3 → s.msu.codes = [c0, c1, c2] →
    let code : Fin 4 → BitVec 12 := fun k => match k with
      | 0 => c0
      | 1 => c1
      | 2 => c2
      | 3 => c3
    (∀ (a : AnalogScale) (k : Nat), a.low < a.high → k ≤ 4095 →
      a.low ≤ a.low + (a.high - a.low) * k / 4095 ∧ a.low + (a.high - a.low) * k / 4095 ≤ a.high) ∧
    ∃ t, exec (.conversionEnd c3) s = .next t ∧ t.msu.adc = .idle ∧ t.msu.codes = [] ∧
      (∀ k : Fin 4,
        let a := s.sup.cfg.analog[k]
        (16 ≤ (code k).toNat → (code k).toNat ≤ 4079 →
          t.msu.chans[k] =
            { value := some (a.low + (a.high - a.low) * (code k).toNat / 4095), valid := true, fault := false }) ∧
        ((code k).toNat < 16 ∨ 4079 < (code k).toNat →
          t.msu.chans[k] = { value := s.msu.chans[k].value, valid := false, fault := true })) ∧
      (∀ p q, t.msu.chans[2].valid = true → t.msu.chans[3].valid = true → t.msu.chans[2].value = some p →
        t.msu.chans[3].value = some q → t.msu.deltaP = some (max (-32768) (min 32767 (p - q)))) ∧
      (t.msu.chans[2].valid = false ∨ t.msu.chans[3].valid = false → t.msu.deltaP = none) ∧
      t.msu = { s.msu with adc := .idle, codes := [], chans := t.msu.chans, deltaP := t.msu.deltaP } ∧
      (let sample (src : Source) (valid : Bool) (v : Option Int) (x : State) : State :=
         match valid, v with
         | true, some k => deliverSample src k x
         | _, _ => x
       let supply := t.msu.chans[0]
       let back := t.msu.chans[1]
       let m : MeasurementSet :=
         { supplyTemp := supply.value, supplyValid := supply.valid, returnTemp := back.value, returnValid := back.valid
           deltaP := t.msu.deltaP, flow := s.msu.flow, known := s.msu.known, time := s.clk.ms }
       let applied : State := { s with msu := t.msu, sup := { s.sup with sensorFault := sensorFaultNow t } }
       let d :=
         sample .diffPressure true t.msu.deltaP
           (sample .returnTemp back.valid back.value (sample .supplyTemp supply.valid supply.value applied))
       (s.sup.mode = .joining ∨ s.sup.mode = .active ∨ s.sup.mode = .contained ∨ s.sup.mode = .isolated →
         t = { controlStep m d with svc := { s.svc with attn := attnNow t } }) ∧
       (s.sup.mode = .parked ∨ s.sup.mode = .conflict →
         t = { processedSet m d with svc := { s.svc with attn := attnNow t } })))

/-- The flow meter (R99 to R102). In STARTING no edge is taken. A first edge starts the period counter; an edge after P µs, P in
1..500,000, puts P in the window of three, and the flow is floor(600,000,000 / (Pf × K)) held at 2000, with Pf the median of three
periods or else the newest; NO_FLOW makes the flow a KNOWN 0, empties the window and awaits a first edge. Nothing else changes. -/
def Obligations.FlowEdgesTimeThePeriods : Prop :=
  (∀ (s : State) (ticks : Nat), s.sup.mode = .starting → exec (.flowRisingEdge ticks) s = .next s) ∧
  (∀ (s : State) (ticks : Nat), s.sup.mode ≠ .starting → s.msu.edge = .awaitFirst →
    exec (.flowRisingEdge ticks) s = .next { s with msu := { s.msu with edge := .timing, period := some 0 } }) ∧
  (∀ (s : State) (b ticks : Nat), s.sup.mode ≠ .starting → s.msu.edge = .timing → s.msu.period = some b →
    (b + ticks = 0 → exec (.flowRisingEdge ticks) s = .next s) ∧
    (1 ≤ b + ticks → b + ticks ≤ 500000 →
      let P := b + ticks
      let k := s.sup.cfg.kFactor
      let taken (w : List Nat) (pf : Nat) : Prop :=
        exec (.flowRisingEdge ticks) s =
          .next { s with
            msu := { s.msu with window := w, flow := min (600000000 / (pf * k)) 2000, known := true, period := some 0 } }
      (s.msu.window = [] → taken [P] P) ∧
      (∀ x, s.msu.window = [x] → taken [x, P] P) ∧
      (∀ x y m, s.msu.window = [x, y] → m ∈ [x, y, P] →
        ([x, y, P].filter (fun v => decide (v < m))).length ≤ 1 → ([x, y, P].filter (fun v => decide (m < v))).length ≤ 1 →
        taken [x, y, P] m) ∧
      (∀ w x y m, s.msu.window = [w, x, y] → m ∈ [x, y, P] →
        ([x, y, P].filter (fun v => decide (v < m))).length ≤ 1 → ([x, y, P].filter (fun v => decide (m < v))).length ≤ 1 →
        taken [x, y, P] m))) ∧
  (∀ s : State, s.msu.edge = .timing →
    exec .noFlow s =
      .next { s with
        msu := { s.msu with flow := 0, known := true, window := [], period := none, edge := .awaitFirst } })

/-- A control step (R128 to R138): demand, share, grant, base duty, trim and duty, by the arithmetic of chapter 8 on the set and on what
stood at the step's start, the grant by the mode's row of R133; the duty goes to the valve drive, which takes it in OPENING and OPEN
(R144). That every duty in OPENING replaces the pending one is the model's choice: R136 says that the first one sent there is applied, R144
and R156 that the last one is (log entry 39). Then, where the valve was OPEN at the start and the flow is KNOWN, the watch engine takes flow minus grant as a FLOW_EXCESS sample,
with the effects of deliverSample. Last the capture history is told of the processed set: it counts, and at the decimation the count
returns to 0 and a MEAS record of the set and the new figures is handed over (R158, R160). Nothing else changes. -/
def Obligations.ControlStepComputesTheFigures : Prop :=
  ∀ (s : State) (m : MeasurementSet),
    let c := s.sup.cfg
    let target : Int := match m.returnValid, m.returnTemp with
      | true, some tr => max (c.dmin : Int) (min (c.dmax : Int) (c.dbase + ((c.kd : Int) * (tr - c.tset)).tdiv 10))
      | _, _ => c.dmax
    let t := controlStep m s
    c.dmin ≤ c.dmax → c.dmin ≤ s.shr.demand → s.shr.demand ≤ c.dmax →
      (t.shr.demand : Int) = max (s.shr.demand - c.slew : Int) (min (s.shr.demand + c.slew : Int) target) ∧
      (let sum := t.shr.demand + peerDemandSum s
       let share := if sum ≤ c.capacity then t.shr.demand else c.capacity * t.shr.demand / sum
       (s.sup.mode = .active → t.shr.grant = share) ∧ (s.sup.mode = .contained → t.shr.grant = min share c.gcont) ∧
       (s.sup.mode = .joining → s.sup.dryCheck = .passed → t.shr.grant = min share c.dmin) ∧
       (s.sup.mode = .joining → s.sup.dryCheck = .pending → t.shr.grant = 0) ∧
       (s.sup.mode = .isolated → t.shr.grant = 0)) ∧
      t.shr.baseDuty = baseDutyOf c t.shr.grant ∧
      (t.shr.grant = 0 → t.shr.trim = 0 ∧ t.shr.duty = 0) ∧
      (t.shr.grant ≠ 0 →
        (s.vlv.valve ≠ .opened ∨ m.known = false → t.shr.trim = s.shr.trim) ∧
        (s.vlv.valve = .opened → m.known = true →
          let err : Int := (t.shr.grant : Int) - m.flow
          (c.deadband < err → t.shr.trim = max (-(c.tmax : Int)) (min (c.tmax : Int) (s.shr.trim + c.trimStep))) ∧
          (err < -(c.deadband : Int) →
            t.shr.trim = max (-(c.tmax : Int)) (min (c.tmax : Int) (s.shr.trim - c.trimStep))) ∧
          (-(c.deadband : Int) ≤ err → err ≤ c.deadband → -(c.tmax : Int) ≤ s.shr.trim → s.shr.trim ≤ c.tmax →
            t.shr.trim = s.shr.trim)) ∧
        (t.shr.duty : Int) = max 0 (min 1023 (t.shr.baseDuty + t.shr.trim))) ∧
      (let sent : State :=
         { s with
           shr := t.shr
           vlv := { s.vlv with
             pendingDuty := if s.vlv.valve = .opening ∨ s.vlv.valve = .opened then t.shr.duty else s.vlv.pendingDuty } }
       let figures : MeasFigures :=
         { returnTemp := if m.returnValid then m.returnTemp else none
           supplyTemp := if m.supplyValid then m.supplyTemp else none
           deltaP := m.deltaP, flow := if m.known then some m.flow else none
           demand := t.shr.demand, grant := t.shr.grant, duty := t.shr.duty, trim := t.shr.trim }
       let d :=
         if s.vlv.valve = .opened ∧ m.known = true then deliverSample .flowExcess ((m.flow : Int) - t.shr.grant) sent
         else sent
       t =
         { d with
           cap := if c.decimation ≤ s.cap.count + 1 then
               appendRecord { time := s.clk.ms, body := .meas figures } { d.cap with count := 0 }
             else { d.cap with count := s.cap.count + 1 } })

/-- The share (R132): the demand when the sum fits the capacity, and floor(C × D / Σ) when it does not; it exceeds neither the demand
nor the capacity. If every station of a row holds the same sum, the shares of the row come together to at most C, and a row of at most
32 whose sum exceeds C leaves at most 31 of C unused. -/
def Obligations.ShareNeverExceedsDemandOrCapacity : Prop :=
  ∀ (c : ConfigSet) (d peers : Nat),
    (d + peers ≤ c.capacity → shareOf c d peers = d) ∧
    (c.capacity < d + peers → shareOf c d peers = c.capacity * d / (d + peers)) ∧
    shareOf c d peers ≤ d ∧ shareOf c d peers ≤ c.capacity ∧ (d = 0 → shareOf c d peers = 0) ∧
    ∀ row : List Nat,
      (row.map fun own => shareOf c own (row.sum - own)).sum ≤ c.capacity ∧
      (row.length ≤ 32 → c.capacity < row.sum → c.capacity ≤ (row.map fun own => shareOf c own (row.sum - own)).sum + 31)

/-- The base duty (R134), for a set the load can leave: 0 for a grant of 0; U0 up to F0; U8 from F8 on; between two flow points the
interpolation, which lies between the two duty points; and it never decreases as the grant rises. -/
def Obligations.BaseDutyRisesWithTheGrant : Prop :=
  ∀ c : ConfigSet, ConfigInRange c →
    baseDutyOf c 0 = 0 ∧
    (∀ g, 1 ≤ g → g ≤ c.flowPoints[0] → baseDutyOf c g = c.dutyPoints[0]) ∧
    (∀ g, 1 ≤ g → c.flowPoints[8] ≤ g → baseDutyOf c g = c.dutyPoints[8]) ∧
    (∀ (k : Fin 8) (g : Nat), c.flowPoints[0] < g → g < c.flowPoints[8] → c.flowPoints[k.val] ≤ g →
      g < c.flowPoints[k.val + 1] →
      baseDutyOf c g =
          c.dutyPoints[k.val] +
            (c.dutyPoints[k.val + 1] - c.dutyPoints[k.val]) * (g - c.flowPoints[k.val]) /
              (c.flowPoints[k.val + 1] - c.flowPoints[k.val]) ∧
        c.dutyPoints[k.val] ≤ baseDutyOf c g ∧ baseDutyOf c g ≤ c.dutyPoints[k.val + 1]) ∧
    (∀ g h, g ≤ h → baseDutyOf c g ≤ baseDutyOf c h) ∧ ∀ g, baseDutyOf c g ≤ 1023

/-! ## The watch engine -/

/-- A sample qualifies by the unit's comparison and thresholds (R108): ABOVE at or above high, BELOW at or below low, OUTSIDE either,
INSIDE strictly between; with high no greater than low + 1 OUTSIDE is met by every value and INSIDE by none; a saturated or SHORT index of
65535 meets every ABOVE that can be configured. A sample of any source but PEER_DRIP qualifies exactly when it meets the comparison, and
every PEER_DRIP sample qualifies (R107). -/
def Obligations.ComparisonsMeetTheirThresholds : Prop :=
  ∀ (c : UnitConfig) (v : Int),
    (c.comparison = .above → (meetsComparison c v = true ↔ c.high ≤ v)) ∧
    (c.comparison = .below → (meetsComparison c v = true ↔ v ≤ c.low)) ∧
    (c.comparison = .outside → (meetsComparison c v = true ↔ c.high ≤ v ∨ v ≤ c.low)) ∧
    (c.comparison = .inside → (meetsComparison c v = true ↔ c.low < v ∧ v < c.high)) ∧
    (c.high ≤ c.low + 1 → c.comparison = .outside → meetsComparison c v = true) ∧
    (c.high ≤ c.low + 1 → c.comparison = .inside → meetsComparison c v = false) ∧
    (c.high ≤ 65535 → c.comparison = .above → meetsComparison c 65535 = true) ∧
    (c.source ≠ .peerDrip → qualifies c v = meetsComparison c v) ∧
    (c.source = .peerDrip → qualifies c v = true)

/-- What a unit does with a sample (R106, R109 to R112, R117 to R119). DISARMED records it only. ARMED counts a qualifying one, and at N
fires; a non-qualifying one returns a CONSECUTIVE count to 0 and leaves a CUMULATIVE one. FIRED and LATCHED records it only; FIRED and
SELF_CLEAR counts the non-qualifying ones in a row and at the clear count leaves FIRED.

A firing (R12, R111, R114, R120 to R123): the unit FIRED with its counter at N, the UNIT_FIRED record, WATCH_FIRED; then its action. NOTE
and CHAIN do no more. ALERT queues a DRIP with severity ALERT in the sending modes. FREEZE and ISOLATE freeze a running capture with
their reason and the unit. ISOLATE takes ACTIVE, CONTAINED and JOINING to ISOLATED (its record falls to the frozen capture), a JOINING
station's timer stopped and a PENDING check FAILED; the valve is asked to close, in CONFLICT too, and one DRIP with severity ISOLATE joins
the queue, but in CONFLICT. Last, every unit armed by this one takes the arming event.

A sample reaches every unit of its source, each by its state at the arrival, and no other unit but one that a firing armed; in STARTING and
PARKED none.

WINDOW_EXPIRY of an ARMED unit makes it DISARMED with its counter at 0 and changes nothing else (R116). In PARKED the window is suspended,
and there is no expiry (R106). -/
def Obligations.UnitTakesSamplesByItsStateAndItsWindowDisarmsIt : Prop :=
  (∀ (s : State) (u : Fin 8) (v : Int),
     let c := s.sup.cfg.units[u]
     let w := s.wch.units[u]
     let noted : WatchUnit := { w with last := some v }
     let put (w' : WatchUnit) : State := { s with wch := { s.wch with units := s.wch.units.set u w' } }
     unitTakesSample .disarmed u v s = put noted ∧
     (qualifies c v = true → w.count + 1 < c.countN →
       unitTakesSample .armed u v s = put { noted with count := w.count + 1 }) ∧
     (qualifies c v = false → c.countMode = .consecutive → unitTakesSample .armed u v s = put { noted with count := 0 }) ∧
     (qualifies c v = false → c.countMode = .cumulative → unitTakesSample .armed u v s = put noted) ∧
     (qualifies c v = true → c.countN ≤ w.count + 1 →
       let t := unitTakesSample .armed u v s
       let fired := appendRecord { time := s.clk.ms, body := .event (.unitFired u) } s.cap
       let frozen (r : FreezeReason) : Capture :=
         if s.cap.frozen then s.cap else { fired with frozen := true, reason := r, unit := some u, time := some s.clk.ms }
       let drip (sev : Severity) : List EventFrame :=
         enqueueFrame (.drip (ownSegment s) sev (zoneMask t) (unitMask t)) s.lnk.queue
       let sup : Supervisor := { s.sup with watchFired := true }
       t.wch.units[u] = { w with status := .fired, count := c.countN, clear := 0, window := none, last := some v } ∧
       (∀ k : Fin 8, k ≠ u →
         let ck := s.sup.cfg.units[k]
         let wk := s.wch.units[k]
         (ck.arming ≠ .afterUnit u ∨ wk.status = .fired → t.wch.units[k] = wk) ∧
         (ck.arming = .afterUnit u → wk.status = .disarmed →
           t.wch.units[k] =
             { wk with status := .armed, count := 0, window := if ck.window = 0 then none else some (1000 * ck.window) }) ∧
         (ck.arming = .afterUnit u → wk.status = .armed →
           t.wch.units[k] = { wk with window := if ck.window = 0 then wk.window else some (1000 * ck.window) })) ∧
       (c.action = .note ∨ c.action = .chain → t = { s with wch := t.wch, cap := fired, sup := sup }) ∧
       (c.action = .freeze → t = { s with wch := t.wch, cap := frozen .freezeUnit, sup := sup }) ∧
       (c.action = .alert →
         t = { s with
           wch := t.wch, cap := fired, sup := sup
           lnk := { s.lnk with queue := if isSending s.sup.mode then drip .alert else s.lnk.queue } }) ∧
       (c.action = .isolate →
         let dsu : DripUnit :=
           { s.dsu with scanTimer := some (s.dsu.scanTimer.getD (1000 * s.sup.cfg.scanPeriod)) }
         let lnk : Link :=
           { s.lnk with
             queue := drip .isolate, statusPending := true, renewed := s.lnk.renewed || statusInFlight s }
         (s.sup.mode = .active ∨ s.sup.mode = .contained →
           t = { s with
             wch := t.wch, cap := frozen .isolate, vlv := (closeRequest s).vlv, sup := { sup with mode := .isolated }
             dsu := dsu, lnk := lnk }) ∧
         (s.sup.mode = .joining →
           t = { s with
             wch := t.wch, cap := frozen .isolate, vlv := (closeRequest s).vlv, dsu := dsu
             sup := { sup with
               mode := .isolated, joinTimer := none
               dryCheck := if s.sup.dryCheck = .pending then .failed else s.sup.dryCheck }
             lnk := { lnk with announce := some (1000 * s.sup.cfg.pAnn) } }) ∧
         (s.sup.mode = .isolated →
           t = { s with
             wch := t.wch, cap := frozen .isolate, vlv := (closeRequest s).vlv, sup := sup
             lnk := { s.lnk with queue := drip .isolate } }) ∧
         (s.sup.mode = .conflict →
           t = { s with wch := t.wch, cap := frozen .isolate, vlv := (closeRequest s).vlv, sup := sup }))) ∧
     (c.latch = .latched → unitTakesSample .fired u v s = put noted) ∧
     (c.latch = .selfClear → qualifies c v = true → unitTakesSample .fired u v s = put { noted with clear := 0 }) ∧
     (c.latch = .selfClear → qualifies c v = false → w.clear + 1 < c.clearCount →
       unitTakesSample .fired u v s = put { noted with clear := w.clear + 1 }) ∧
     (c.latch = .selfClear → qualifies c v = false → c.clearCount ≤ w.clear + 1 →
       let t := unitTakesSample .fired u v s
       t =
         { put { noted with
             status := if c.arming = .always then .armed else .disarmed
             count := 0, clear := 0, window := none } with
           cap := appendRecord { time := s.clk.ms, body := .event (.unitCleared u) } s.cap
           sup := { s.sup with watchFired := s.sup.watchFired && anyFired t } })) ∧
  (∀ (s : State) (src : Source) (v : Int),
     let t := deliverSample src v s
     (isEvaluating s.sup.mode = false → t = s) ∧
     (∀ u : Fin 8, (∀ k : Fin 8, k ≠ u → s.sup.cfg.units[k].source ≠ src) → s.sup.cfg.units[u].source = src →
       isEvaluating s.sup.mode = true → t = unitTakesSample s.wch.units[u].status u v s) ∧
     (∀ u : Fin 8, isEvaluating s.sup.mode = true →
       let c := s.sup.cfg.units[u]
       let w := s.wch.units[u]
       let w' := t.wch.units[u]
       (c.source = src → w'.last = some v) ∧
       (c.source = src → w.status = .armed → qualifies c v = true →
         (c.countN ≤ w.count + 1 →
           w' = { w with status := .fired, count := c.countN, clear := 0, window := none, last := some v }) ∧
         (w.count + 1 < c.countN → w'.status = .armed ∧ w'.count = w.count + 1)) ∧
       (c.source = src → w.status = .armed → qualifies c v = false →
         w'.status = .armed ∧ w'.count = if c.countMode = .consecutive then 0 else w.count) ∧
       (c.source = src → w.status = .fired → c.latch = .latched → w' = { w with last := some v }) ∧
       (c.source = src → w.status = .disarmed → w'.status ≠ .fired ∧ w'.clear = w.clear) ∧
       (c.source ≠ src → w.status = .fired ∨ c.arming = .always ∨ c.arming = .afterPeerDrip → w' = w) ∧
       (c.source ≠ src → w.status = .armed → w'.status = .armed ∧ w'.count = w.count ∧ w'.last = w.last))) ∧
  (∀ (s : State) (u : Fin 8) (n : Nat), s.wch.units[u].status = .armed → s.wch.units[u].window = some n →
     (s.sup.mode ≠ .parked →
       exec (.windowExpiry u) s =
         .next { s with
           wch := { s.wch with
             units := s.wch.units.set u { s.wch.units[u] with status := .disarmed, count := 0, window := none } } }) ∧
     (s.sup.mode = .parked → exec (.windowExpiry u) s = .next s))

/-! ## The valve drive -/

/-- OPEN and CLOSE requests by valve state (R147, R148, R153), each change with its VALVE record. -/
def Obligations.ValveRequestsActByState : Prop :=
  ∀ s : State,
    let record (v : ValveState) : Capture := appendRecord { time := s.clk.ms, body := .event (.valve v) } s.cap
    (s.vlv.valve = .closed ∨ s.vlv.valve = .stuck →
      openRequest s =
          { s with
            vlv := { s.vlv with
              valve := .opening, pendingDuty := 0, pullIn := some (1000 * s.sup.cfg.pullInTime), returnDrive := .full }
            cap := record .opening } ∧
        closeRequest s = s) ∧
    (s.vlv.valve = .opening ∨ s.vlv.valve = .opened →
      openRequest s = s ∧
        closeRequest s =
          { s with
            vlv := { s.vlv with
              valve := .closing, applied := 0, pendingDuty := 0, pullIn := none, returnDrive := .off,
              stroke := some (1000 * s.sup.cfg.strokeTime) }
            cap := record .closing }) ∧
    (s.vlv.valve = .closing →
      openRequest s = { s with vlv := { s.vlv with reopen := true } } ∧
        closeRequest s = { s with vlv := { s.vlv with reopen := false } })

/-- PULL_IN_EXPIRY takes OPENING to OPEN with its record and leaves the return fully on; PERIOD_START in OPEN applies the pending duty
and takes the return to the hold drive, and in every other state changes nothing (R143 to R146, R149, R153); that it is taken at any µs of
the ms, and not at a whole ms only, is the model's choice (log entry 3). The outputs at a µs of the
PWM period: a duty d is on for d × 1000/1024 µs of it; the supply is driven at the applied duty in OPEN and is off otherwise; the return
is off, fully on, or at the hold duty of the configuration set (R142, R143, R145, R146).

STROKE_TIMER_EXPIRY in CLOSING (R150 to R153): a flow KNOWN and at or below the leak-by threshold clears STROKE_FAULT and closes
the valve, or with reopen-pending goes on from CLOSED to OPENING with both records; any other flow sets STROKE_FAULT and ends STUCK,
or with reopen-pending OPENING alone. ATTN follows; nothing else changes. -/
def Obligations.PullInPeriodAndStrokeMoveTheValve : Prop :=
  ((∀ s : State, s.vlv.valve = .opening →
     exec .pullInExpiry s =
       .next { s with
         vlv := { s.vlv with valve := .opened, pullIn := none }
         cap := appendRecord { time := s.clk.ms, body := .event (.valve .opened) } s.cap }) ∧
   (∀ s : State, s.vlv.valve = .opened →
     exec .periodStart s = .next { s with vlv := { s.vlv with applied := s.vlv.pendingDuty, returnDrive := .hold } }) ∧
   (∀ s : State, s.vlv.valve ≠ .opened → exec .periodStart s = .next s) ∧
   (∀ s : State,
     (supplyOutput s = true ↔ s.vlv.valve = .opened ∧ s.clk.us * 1024 < s.vlv.applied * 1000) ∧
     (returnOutput s = true ↔
       s.vlv.returnDrive = .full ∨ (s.vlv.returnDrive = .hold ∧ s.clk.us * 1024 < s.sup.cfg.holdDuty * 1000)))) ∧
  (∀ s : State, s.vlv.valve = .closing →
     let record (v : ValveState) (c : Capture) : Capture := appendRecord { time := s.clk.ms, body := .event (.valve v) } c
     let good := s.msu.known = true ∧ s.msu.flow ≤ s.sup.cfg.leakBy
     let ended (v : ValveState) (fault : Bool) : Valve :=
       { s.vlv with valve := v, stroke := none, reopen := false, strokeFault := fault }
     let opening (fault : Bool) : Valve :=
       { ended .opening fault with
         pendingDuty := 0, pullIn := some (1000 * s.sup.cfg.pullInTime), returnDrive := .full }
     ∃ t, exec .strokeTimerExpiry s = .next t ∧
       t = { s with vlv := t.vlv, cap := t.cap, svc := { s.svc with attn := attnNow t } } ∧
       (good → s.vlv.reopen = false → t.vlv = ended .closed false ∧ t.cap = record .closed s.cap) ∧
       (good → s.vlv.reopen = true → t.vlv = opening false ∧ t.cap = record .opening (record .closed s.cap)) ∧
       (¬good → s.vlv.reopen = false → t.vlv = ended .stuck true ∧ t.cap = record .stuck s.cap) ∧
       (¬good → s.vlv.reopen = true → t.vlv = opening true ∧ t.cap = record .opening s.cap))

/-! ## The capture history and the service port -/

/-- The read requests IDENT, STATION, ZONES, CAPTURE_INFO, WATCH i, ROSTER i and CAPTURE i (R167, R169 to R171, R174, R177, R178): each
replaces the pending answer and changes nothing else; the result is OK with an item of the fixed length, every byte of it as laid out, or
BAD_INDEX or NOT_FROZEN without one. Multi-byte fields are the big-endian bytes of their value, signed ones in two's complement. The
window time is whole ms rounded up, the silence whole ms rounded down (the model's reading, log entry 6);
a window with no time left shows 0 until its expiry is taken (the model's choice, log entry 43). -/
def Obligations.ReadRequestsSnapshotTheirItems : Prop :=
  (∀ n : Nat, n < 65536 → ∃ h l : Byte, be16 n = [h, l] ∧ 256 * h.toNat + l.toNat = n) ∧
  (∀ i : Int, -32768 ≤ i → i ≤ 32767 →
    ∃ h l : Byte, be16Int i = [h, l] ∧ (256 * h.toNat + l.toNat : Int) = if i < 0 then i + 65536 else i) ∧
  (∀ i : Int, -8388608 ≤ i → i ≤ 8388607 →
    ∃ h m l : Byte, be24Int i = [h, m, l] ∧
      (65536 * h.toNat + 256 * m.toNat + l.toNat : Int) = if i < 0 then i + 16777216 else i) ∧
  (∀ t : BitVec 32, ∃ a b c d : Byte,
    be32 t = [a, b, c, d] ∧ 16777216 * a.toNat + 65536 * b.toNat + 256 * c.toNat + d.toNat = t.toNat) ∧
  ∀ s : State, s.clk.held = false →
    let answered (r : ResultCode) (item : List Byte) : Host.Outcome State Fault Refusal :=
      .next { s with svc := { s.svc with pendingAnswer := some { result := r, item := item } } }
    let value (v : Option Int) : List Byte := be16Int (v.getD 0)
    let held (k : Fin 4) : Option Int := s.msu.chans[k].value
    let presence (l : List Bool) : Byte := BitVec.ofNat 8 (l.foldr (fun b n => 2 * n + b.toNat) 0)
    (∀ a g, s.sup.ownAddr = some a → s.sup.ownSeg = some g →
      exec .ident s = answered .ok [0x4B, 0x26, 0x18, 0x01, a.setWidth 8, g.setWidth 8]) ∧
    (∃ item, exec .station s = answered .ok item ∧ item.length = 29 ∧
      item =
        [modeCode s.sup.mode,
          presence [configFlag s, s.sup.sensorFault, s.ros.overflow, s.sup.watchFired, s.vlv.strokeFault,
            s.sup.configDefaulted, s.sup.configAdjusted],
          dryCheckCode s.sup.dryCheck] ++
          be16 s.shr.demand ++ be16 s.shr.grant ++ be16 s.shr.duty ++ be16Int s.shr.trim ++
          (if s.msu.known then be16 s.msu.flow else [0xFF, 0xFF]) ++ value (held 0) ++ value (held 1) ++ value (held 2) ++
          value (held 3) ++ value s.msu.deltaP ++
          [presence [(held 0).isSome, (held 1).isSome, (held 2).isSome, (held 3).isSome, s.msu.deltaP.isSome],
            valveCode s.vlv.valve, linkCode s.lnk.link, linkErrorCode s.lnk.lastError, byteOf s.ros.entries.length,
            byteOf s.lnk.queue.length]) ∧
    (∃ item, exec .zones s = answered .ok item ∧ item.length = 22 ∧
      item.drop 20 = [scanStateCode s.dsu.scan, byteOf s.dsu.refFaults] ∧
      ∀ z : Fin 4,
        (item.drop (5 * z.val)).take 5 =
          match s.dsu.latest[z] with
          | some r => be16 r.index ++ [zoneStateCode r.state] ++ be16 r.scan.toNat
          | none => [0, 0, 0xFF, 0, 0]) ∧
    (∃ item, exec .captureInfo s = answered .ok item ∧ item.length = 9 ∧
      item =
        [if s.cap.frozen then (1 : Byte) else 0] ++ be16 s.cap.ring.length ++
          [freezeReasonCode s.cap.reason, match s.cap.unit with | some u => byteOf u.val | none => 0xFF] ++
          be32 (s.cap.time.getD 0)) ∧
    (∀ u : Fin 8,
      let w := s.wch.units[u]
      ∃ item, exec (.watch (byteOf u.val)) s = answered .ok item ∧ item.length = 8 ∧
        item =
          [unitStatusCode w.status, byteOf w.count] ++ be24Int (w.last.getD 0) ++ [if w.last = none then 0 else 1] ++
            match w.window with
            | some us => be16 ((us + 999) / 1000)
            | none => [0xFF, 0xFF]) ∧
    (∀ i : Byte, 8 ≤ i.toNat → exec (.watch i) s = answered .badIndex []) ∧
    (∀ (i : Byte) (e : Entry), s.ros.entries[i.toNat]? = some e →
      ∃ item, exec (.roster i) s = answered .ok item ∧ item.length = 14 ∧
        item =
          [e.address.setWidth 8, e.segment.setWidth 8, peerModeCode e.mode,
            presence [e.flags.config, e.flags.sensorFault, e.flags.rosterOverflow, e.flags.watchFired,
              e.flags.strokeFault]] ++
            be16 e.demand ++ be16 e.flow ++ [e.zones.setWidth 8, byteOf (e.period / 50), livenessCode e.liveness] ++
            be16 (e.silence / 1000) ++ [match e.severity with | some v => severityCode v | none => 0xFF]) ∧
    (∀ i : Byte, s.ros.entries.length ≤ i.toNat → exec (.roster i) s = answered .badIndex []) ∧
    (∀ i : Byte, s.cap.frozen = false → exec (.capture i) s = answered .notFrozen []) ∧
    (∀ (i : Byte) (r : Record), s.cap.frozen = true → s.cap.ring[i.toNat]? = some r →
      ∃ item, exec (.capture i) s = answered .ok item ∧ item.length = 22 ∧ item.take 4 = be32 r.time ∧
        (∀ z g st n, r.body = .zone z g st n →
          item.drop 4 =
            [0, byteOf z.val] ++ be16 g ++ [zoneStateCode st] ++ be16 n.toNat ++ List.replicate 11 0) ∧
        (∀ f, r.body = .meas f →
          item.drop 4 =
            [1, presence [f.returnTemp.isSome, f.supplyTemp.isSome, f.deltaP.isSome, f.flow.isSome]] ++
              value f.returnTemp ++ value f.supplyTemp ++ value f.deltaP ++ be16 (f.flow.getD 0) ++ be16 f.demand ++
              be16 f.grant ++ be16 f.duty ++ be16Int f.trim) ∧
        (∀ e, r.body = .event e →
          item.drop 4 =
            2 ::
              (match e with
                | .unitFired u => [1, byteOf u.val, 0]
                | .unitCleared u => [2, byteOf u.val, 0]
                | .mode m => [3, modeCode m, 0]
                | .peerDrip a v => [4, a.setWidth 8, severityCode v]
                | .valve v => [5, valveCode v, 0]
                | .holdoff => [6, 0, 0]
                | .refFault => [7, 0, 0]) ++ List.replicate 14 0)) ∧
    (∀ i : Byte, s.cap.frozen = true → s.cap.ring.length ≤ i.toNat → exec (.capture i) s = answered .badIndex [])

/-- RELEASE (R12, R13, R17, R44, R119): refused WRONG_MODE outside ISOLATED; refused STILL_WET while the last value of a FIRED ISOLATE
unit with a measured source still meets its comparison; a refusal changes the answer only. Accepted, no unit is left FIRED, the station
goes to ACTIVE or on to CONTAINED, WATCH_FIRED clears, the scan timer runs, an OPEN request goes out, and a CLEAR joins the queue behind
what is there, or takes the newest place of a full one; a frozen capture stays. A running one takes the UNIT_CLEARED records in ascending unit number, the MODE record or records and
the VALVE record of the request, in this order, which is the model's choice where the records come from different blocks (log entry 35).

ACKNOWLEDGE (R16, R119), OK in every mode: every FIRED unit with an action other than ISOLATE returns to ARMED or DISARMED with its
counters at 0, with its UNIT_CLEARED record, in ascending unit number; every other unit stays; WATCH_FIRED clears when no unit is left FIRED; no mode, queue, scan or valve changes. -/
def Obligations.ReleaseAndAcknowledgeReturnTheUnits : Prop :=
  let record (s : State) (c : Capture) (e : CaptureEvent) : Capture := appendRecord { time := s.clk.ms, body := .event e } c
  (∀ s : State, s.clk.held = false →
     let refused (r : ResultCode) : Host.Outcome State Fault Refusal :=
       .next { s with svc := { s.svc with pendingAnswer := some { result := r, item := [] } } }
     let wet := ∃ (u : Fin 8) (v : Int), s.wch.units[u].status = .fired ∧ s.sup.cfg.units[u].action = .isolate ∧
       s.sup.cfg.units[u].source ≠ .peerDrip ∧ s.sup.cfg.units[u].source ≠ .flowExcess ∧
       s.wch.units[u].last = some v ∧ meetsComparison s.sup.cfg.units[u] v = true
     (s.sup.mode ≠ .isolated → exec .release s = refused .wrongMode) ∧
     (s.sup.mode = .isolated → wet → exec .release s = refused .stillWet) ∧
     (s.sup.mode = .isolated → ¬wet →
       ∃ t, exec .release s = .next t ∧ t.svc.pendingAnswer = some { result := .ok, item := [] } ∧
         anyFired t = false ∧
         t.sup.mode =
           (if 1 ≤ s.sup.cfg.quorum ∧ s.sup.cfg.quorum ≤ isolationCount s then .contained else .active) ∧
         (∀ u : Fin 8, s.wch.units[u].status = .fired →
           t.wch.units[u] =
             { s.wch.units[u] with
               status := if s.sup.cfg.units[u].arming = .always then .armed else .disarmed
               count := 0, clear := 0, window := none }) ∧
         (∀ u : Fin 8, s.wch.units[u].status ≠ .fired → t.wch.units[u] = s.wch.units[u]) ∧
         t.vlv = (openRequest s).vlv ∧
         (s.vlv.valve = .closing → t.vlv = { s.vlv with reopen := true }) ∧
         (s.vlv.valve = .closed ∨ s.vlv.valve = .stuck → t.vlv.valve = .opening) ∧
         t.lnk =
           { s.lnk with
             queue := enqueueFrame (.clear (ownSegment s)) s.lnk.queue, statusPending := true
             renewed := s.lnk.renewed || statusInFlight s } ∧
         (let fired := (List.finRange 8).filter fun u => decide (s.wch.units[u].status = .fired)
          let cleared := fired.foldl (fun c u => record s c (.unitCleared u)) s.cap
          let active := record s cleared (.mode .active)
          let moved := if t.sup.mode = .contained then record s active (.mode .contained) else active
          t.cap = if s.vlv.valve = .closed ∨ s.vlv.valve = .stuck then record s moved (.valve .opening) else moved) ∧
         t.sup = { s.sup with mode := t.sup.mode, watchFired := t.sup.watchFired } ∧
         (s.sup.watchFired = anyFired s → t.sup.watchFired = false) ∧
         t.dsu = { s.dsu with scanTimer := some (s.dsu.scanTimer.getD (1000 * s.sup.cfg.scanPeriod)) } ∧
         t.svc = { s.svc with pendingAnswer := some { result := .ok, item := [] }, attn := attnNow t } ∧
         (s.cap.frozen = true → t.cap = s.cap) ∧ t.ros = s.ros ∧ t.shr = s.shr ∧
         t.msu = s.msu ∧ t.rli = s.rli ∧ t.clk = s.clk ∧ t.pending = s.pending)) ∧
  (∀ s : State, s.clk.held = false →
     ∃ t, exec .acknowledge s = .next t ∧
       t.svc = { s.svc with pendingAnswer := some { result := .ok, item := [] }, attn := attnNow t } ∧
       (∀ u : Fin 8, s.wch.units[u].status = .fired → s.sup.cfg.units[u].action ≠ .isolate →
         t.wch.units[u] =
           { s.wch.units[u] with
             status := if s.sup.cfg.units[u].arming = .always then .armed else .disarmed
             count := 0, clear := 0, window := none }) ∧
       (∀ u : Fin 8, s.wch.units[u].status ≠ .fired ∨ s.sup.cfg.units[u].action = .isolate →
         t.wch.units[u] = s.wch.units[u]) ∧
       (s.sup.watchFired = anyFired s → t.sup = { s.sup with watchFired := anyFired t }) ∧
       (let leaving := (List.finRange 8).filter fun u =>
          decide (s.wch.units[u].status = .fired ∧ s.sup.cfg.units[u].action ≠ .isolate)
        t.cap = leaving.foldl (fun c u => record s c (.unitCleared u)) s.cap) ∧
       (s.cap.frozen = true → t.cap = s.cap) ∧ t.lnk = s.lnk ∧ t.rli = s.rli ∧ t.ros = s.ros ∧ t.dsu = s.dsu ∧
       t.msu = s.msu ∧ t.shr = s.shr ∧ t.vlv = s.vlv ∧ t.clk = s.clk ∧ t.pending = s.pending)

/-- FREEZE is OK in every mode: in RUNNING it freezes the capture with the reason SERVICE, no unit and the present time, writing no
record; in FROZEN it changes nothing. RESUME in FROZEN empties the ring and the reason and runs, keeping the decimation count; in
RUNNING it is refused NOT_FROZEN (R161, R163). -/
def Obligations.FreezeAndResumeTheCapture : Prop :=
  ∀ s : State, s.clk.held = false →
    let svc (r : ResultCode) : Service := { s.svc with pendingAnswer := some { result := r, item := [] } }
    (s.cap.frozen = false →
      exec .freeze s =
          .next { s with
            svc := svc .ok
            cap := { s.cap with frozen := true, reason := .service, unit := none, time := some s.clk.ms } } ∧
        exec .resume s = .next { s with svc := svc .notFrozen }) ∧
    (s.cap.frozen = true →
      exec .freeze s = .next { s with svc := svc .ok } ∧
        exec .resume s =
          .next { s with
            svc := svc .ok
            cap := { s.cap with frozen := false, ring := [], reason := .none, unit := none, time := none } })

/-- PARK (R14, R44, R53, R87, R139) in ACTIVE, CONTAINED and ISOLATED: PARKED, a CLOSE request, a LEAVE queued, at a full queue in the
newest place, and status-pending cleared, the scan aborted and its timer stopped, the share values 0 with the demand kept, the units and
the roster as they were; in every other mode WRONG_MODE without effect. An aborted scan leaves Tref and the reference-fault count at the
values held before it, and SENSOR_FAULT follows the count; that this reaches back over the scan's own good reference phase is the model's
choice (log entry 33). A running capture takes the MODE record and then the VALVE record of a request that closes the valve, here and at
UNPARK; that order is the model's reading (log entry 16).

UNPARK (R8, R15) in PARKED: JOINING with the dry check PENDING, the join timer at twice P_ann, a scan begun and a CLOSE request; in every
other mode WRONG_MODE without effect. -/
def Obligations.ParkAndUnpark : Prop :=
  ∀ s : State, s.clk.held = false →
    let wrong : Host.Outcome State Fault Refusal :=
      .next { s with svc := { s.svc with pendingAnswer := some { result := .wrongMode, item := [] } } }
    let recorded (m : Mode) : Capture :=
      let moded := appendRecord { time := s.clk.ms, body := .event (.mode m) } s.cap
      if s.vlv.valve = .opening ∨ s.vlv.valve = .opened then
        appendRecord { time := s.clk.ms, body := .event (.valve .closing) } moded
      else moded
    (s.sup.mode = .active ∨ s.sup.mode = .contained ∨ s.sup.mode = .isolated →
      ∃ t, exec .park s = .next t ∧ t.svc.pendingAnswer = some { result := .ok, item := [] } ∧
        t.sup = { s.sup with mode := .parked, sensorFault := sensorFaultNow t } ∧
        t.lnk =
          { s.lnk with
            queue := enqueueFrame .leave s.lnk.queue, statusPending := false, renewed := false, announce := none } ∧
        t.dsu =
          { s.dsu with
            scan := .idle, rescan := false, scanTimer := none, counter := none, timeBase := none
            tref := if s.dsu.scan = .idle then s.dsu.tref else s.dsu.trefBefore
            refFaults := if s.dsu.scan = .idle then s.dsu.refFaults else s.dsu.refFaultsBefore } ∧
        t.shr = { s.shr with grant := 0, baseDuty := 0, trim := 0, duty := 0 } ∧ t.vlv = (closeRequest s).vlv ∧
        t.cap = recorded .parked ∧ t.svc.attn = attnNow t ∧ t.wch = s.wch ∧ t.ros = s.ros ∧ t.rli = s.rli ∧ t.msu = s.msu ∧
        t.clk = s.clk ∧ t.pending = s.pending) ∧
    (s.sup.mode = .starting ∨ s.sup.mode = .joining ∨ s.sup.mode = .parked ∨ s.sup.mode = .conflict →
      exec .park s = wrong) ∧
    (s.sup.mode = .parked → s.dsu.scan = .idle →
      ∃ t, exec .unpark s = .next t ∧ t.svc.pendingAnswer = some { result := .ok, item := [] } ∧
        t.sup =
          { s.sup with
            mode := .joining, dryCheck := .pending, joinFaults := 0, joinExpired := false,
            joinTimer := some (1000 * (2 * s.sup.cfg.pAnn)) } ∧
        t.dsu =
          { s.dsu with
            scan := .reference, scanNumber := s.dsu.scanNumber + 1, counter := some 0, timeBase := some 0
            trefBefore := s.dsu.tref, refFaultsBefore := s.dsu.refFaults } ∧
        t.vlv = (closeRequest s).vlv ∧ t.lnk = { s.lnk with announce := none } ∧ t.cap = recorded .joining ∧
        t.svc.attn = attnNow t ∧ t.wch = s.wch ∧ t.ros = s.ros ∧ t.shr = s.shr ∧ t.rli = s.rli ∧ t.msu = s.msu ∧ t.clk = s.clk ∧
        t.pending = s.pending) ∧
    (s.sup.mode ≠ .parked → exec .unpark s = wrong)

/-- BAD_REQUEST gives its result with no item and changes nothing else. SERVICE_READ returns the result byte, the item and then 0x00
for as many bytes as are clocked, NO_REQUEST when nothing is pending, and consumes the answer when at least one byte has been sent (R166 to
R168).

On the bus (R165; that a command stands for an acknowledged transaction is log entry 36): a transaction at 0x4E with RESET high is
acknowledged and its command joins the waiting ones; at any other address, the general call included, or with RESET low, nothing is
acknowledged and nothing changes. A write spells the command of its whole bytes, most significant bit first, a byte cut short being
dropped; without a whole byte it spells none. The first byte is the request code of R166; WATCH, ROSTER and CAPTURE take the second as
their index, and without one are a BAD_REQUEST, as a code not in the table is; every further byte is ignored. -/
def Obligations.BadRequestAndServiceRead : Prop :=
  (∀ s : State, s.clk.held = false →
    (exec .badRequest s =
        .next { s with svc := { s.svc with pendingAnswer := some { result := .badRequest, item := [] } } } ∧
      (∀ (a : Answer) (n : Nat), s.svc.pendingAnswer = some a →
        ∃ t, exec (.serviceRead n) s = .next t ∧ t.svc.readOut.length = n ∧
          (∀ k, k < n → t.svc.readOut.getD k 0 = (resultCode a.result :: a.item).getD k 0) ∧
          t.svc.pendingAnswer = (if n = 0 then some a else none) ∧
          t = { s with svc := { s.svc with readOut := t.svc.readOut, pendingAnswer := t.svc.pendingAnswer } }) ∧
      (∀ n : Nat, s.svc.pendingAnswer = none →
        ∃ t, exec (.serviceRead n) s = .next t ∧ t.svc.readOut.length = n ∧
          (∀ k, k < n → t.svc.readOut.getD k 0 = if k = 0 then 0x06 else 0) ∧
          t = { s with svc := { s.svc with readOut := t.svc.readOut } }))) ∧
  (∀ (s : State) (addr : BitVec 7) (c : Option Instr),
    (acknowledges addr s = true ↔ addr = 0x4E ∧ s.clk.held = false) ∧
    (addr = 0x4E → s.clk.held = false → busTransaction addr c s = { s with pending := s.pending ++ c.toList }) ∧
    (addr ≠ 0x4E ∨ s.clk.held = true → busTransaction addr c s = s)) ∧
  (∀ (bytes : List Byte) (cut : List Bool), cut.length < 8 →
    let bits := (bytes.flatMap fun b => (List.range 8).map fun k => b.getMsbD k) ++ cut
    busWrite 0x4E bits = decodeWrite bytes ∧ (∀ addr, addr ≠ 0x4E → busWrite addr bits = none)) ∧
  decodeWrite [] = none ∧
  (let plain : List (Byte × Instr) :=
     [(0x01, .ident), (0x02, .station), (0x03, .zones), (0x06, .captureInfo), (0x10, .release), (0x11, .acknowledge),
      (0x12, .scan), (0x13, .freeze), (0x14, .resume), (0x15, .park), (0x16, .unpark)]
   let indexed : List (Byte × (Byte → Instr)) := [(0x04, .watch), (0x05, .roster), (0x07, .capture)]
   (∀ p ∈ plain, ∀ rest, decodeWrite (p.1 :: rest) = some p.2) ∧
   (∀ p ∈ indexed, decodeWrite [p.1] = some .badRequest ∧ ∀ i rest, decodeWrite (p.1 :: i :: rest) = some (p.2 i)) ∧
   (∀ code rest, code ∉ plain.map (·.1) → code ∉ indexed.map (·.1) → decodeWrite (code :: rest) = some .badRequest)) ∧
  (∀ (addr : BitVec 7) (n : Nat), busRead addr n = if addr = 0x4E then some (.serviceRead n) else none)

/-- While the capture is FROZEN, no command but RESUME and RESET changes anything of it but the decimation count: its records, their
order, their number, the reason, the unit and the time stay (R162). -/
def Obligations.FrozenCaptureStays : Prop :=
  ∀ (c : Instr) (s t : State), s.cap.frozen = true → c ≠ .resume → c ≠ .reset → exec c s = .next t →
    t.cap = { s.cap with count := t.cap.count }

/-! ## Invariants: every step keeps them -/

/-- Each predicate of Safety.lean holds right after reset. -/
def Obligations.SafeAtReset : Prop := Safe State.reset

/-- STARTING lasts exactly while RESET is low or the load runs, the straps have their values from reset release on, and in STARTING
every block stands as reset left it (R1, R6). -/
def Obligations.StartingIsKept : Prop :=
  ∀ s t : State, StartingSafe s → step s = .next t → StartingSafe t

/-- The timers of the modes and the join, the join's two completions, and the agreement of ACTIVE and CONTAINED with the containment
count (R10, R11, R13, R41, R85). -/
def Obligations.ModesAreKept : Prop :=
  ∀ s t : State, StartingSafe s → RosterSafe s → ModeSafe s → step s = .next t → ModeSafe t

/-- The link state agrees with the receiver, one frame at most is in flight and only in SENDING, an event frame in flight is the
queue's head, the queue holds at most 4, the attempt count is 4 exactly in the holdoff (R39, R43, R48 to R53). Outside OFF the quiet timer
has counted at most 160 µs, or waits for a rise on a low line, and the low-time measure runs exactly while the line is low (R24, R25). -/
def Obligations.LinkIsKept : Prop :=
  ∀ s t : State, StartingSafe s → ModeSafe s → LinkSafe s → step s = .next t → LinkSafe t

/-- The roster holds at most 24 entries in strictly ascending address order, never the own address, with fields in range (R56, R61). -/
def Obligations.RosterIsKept : Prop :=
  ∀ s t : State, StartingSafe s → ConfigSafe s → RosterSafe s → step s = .next t → RosterSafe t

/-- The working counts of a scan, rescan-pending, Tref and the held readings are as chapter 5 states (R73 to R87). -/
def Obligations.DripSensingIsKept : Prop :=
  ∀ s t : State, StartingSafe s → ConfigSafe s → DripSafe s → step s = .next t → DripSafe t

/-- The channels, ΔP, the period counter, the window and the flow are as chapter 6 states (R90 to R102). -/
def Obligations.MeasurementIsKept : Prop :=
  ∀ s t : State, ConfigSafe s → MeasureSafe s → step s = .next t → MeasureSafe t

/-- A unit's counters and window timer are by its state as R105 states; the window may have no time left while its expiry is still to be
taken (the model's choice, log entry 43). -/
def Obligations.WatchUnitsAreKept : Prop :=
  ∀ s t : State, ConfigSafe s → WatchSafe s → step s = .next t → WatchSafe t

/-- The demand lies in Dmin..Dmax, the grant exceeds neither demand nor capacity, and duty and trim are 0 with a grant of 0 (R127 to
R139). -/
def Obligations.ShareIsKept : Prop :=
  ∀ s t : State, StartingSafe s → ConfigSafe s → ShareSafe s → step s = .next t → ShareSafe t

/-- The supply is driven only in OPEN and the return only in OPENING and OPEN; each timer runs exactly in its own state (R142 to
R151). -/
def Obligations.ValveOutputsAreKept : Prop :=
  ∀ s t : State, ValveSafe s → step s = .next t → ValveSafe t

/-- The capture holds at most 256 records, and its reason, unit and time stand as its state says (R157 to R163). -/
def Obligations.CaptureIsKept : Prop :=
  ∀ s t : State, StartingSafe s → ConfigSafe s → CaptureSafe s → step s = .next t → CaptureSafe t

/-- WATCH_FIRED, SENSOR_FAULT and ATTN stand exactly while their conditions hold (R19, R119, R173). -/
def Obligations.FlagsAreKept : Prop :=
  ∀ s t : State, FlagsSafe s → step s = .next t → FlagsSafe t
end

