-- ==== Sys2Proof/Laws/ConfigLoad.lean ====
section
/-! SUPPORT. What each operation of the configuration load does, once: the field tests of R4, the codes of R176 and the repairs of R5. -/

namespace Sys2Proof.Machine

/-! ## Field tests -/

/-- An unsigned field in range is taken as it stands, and is bad exactly when it is out of range. -/
theorem testNat_spec (lo hi d v : Nat) :
    (testNat lo hi d v).val = (if lo ≤ v ∧ v ≤ hi then v else d) ∧ ((testNat lo hi d v).bad = true ↔ ¬(lo ≤ v ∧ v ≤ hi)) := by
  unfold testNat; split <;> simp_all

/-- A signed field in range is taken as it stands, and is bad exactly when it is out of range. -/
theorem testInt_spec (lo hi d v : Int) :
    (testInt lo hi d v).val = (if lo ≤ v ∧ v ≤ hi then v else d) ∧ ((testInt lo hi d v).bad = true ↔ ¬(lo ≤ v ∧ v ≤ hi)) := by
  unfold testInt; split <;> simp_all

/-- A coded field that holds a code takes its value, one that holds none takes its default and is bad. -/
theorem testCode_spec {α : Type} (code : α → Byte) (ofCode : Nat → Option α)
    (h : ∀ n v, ofCode n = some v ↔ n = (code v).toNat) (d : α) (n : Nat) :
    (∀ v, n = (code v).toNat → (testCode d (ofCode n)).val = v) ∧
      ((∀ v, n ≠ (code v).toNat) → (testCode d (ofCode n)).val = d) ∧
      ((testCode d (ofCode n)).bad = true ↔ ∀ v, n ≠ (code v).toNat) := by
  cases ho : ofCode n with
  | none =>
    have none_codes : ∀ v, n ≠ (code v).toNat := fun v e => by rw [(h n v).2 e] at ho; cases ho
    exact ⟨fun v e => absurd e (none_codes v), fun _ => rfl, by simpa [testCode] using none_codes⟩
  | some v =>
    have e := (h n v).1 ho
    refine ⟨fun w ew => ?_, fun hn => absurd e (hn v), ?_⟩
    · have hw := (h n w).2 ew
      rw [ho] at hw; cases hw; rfl
    · simpa [testCode] using ⟨v, e⟩

/-! ## Codes -/

theorem sourceOfCode_iff (n : Nat) (v : Source) : sourceOfCode n = some v ↔ n = (sourceCode v).toNat := by
  constructor
  · unfold sourceOfCode; split <;> intro h <;> cases h <;> rfl
  · rintro rfl
    cases v with
    | zone z => revert z; decide
    | _ => rfl

theorem comparisonOfCode_iff (n : Nat) (v : Comparison) : comparisonOfCode n = some v ↔ n = (comparisonCode v).toNat := by
  constructor
  · unfold comparisonOfCode; split <;> intro h <;> cases h <;> rfl
  · rintro rfl; cases v <;> rfl

theorem countModeOfCode_iff (n : Nat) (v : CountMode) : countModeOfCode n = some v ↔ n = (countModeCode v).toNat := by
  constructor
  · unfold countModeOfCode; split <;> intro h <;> cases h <;> rfl
  · rintro rfl; cases v <;> rfl

theorem armingOfCode_iff (n : Nat) (v : Arming) : armingOfCode n = some v ↔ n = (armingCode v).toNat := by
  constructor
  · unfold armingOfCode; split <;> intro h <;> cases h <;> rfl
  · rintro rfl
    cases v with
    | afterUnit z => revert z; decide
    | _ => rfl

theorem actionOfCode_iff (n : Nat) (v : Action) : actionOfCode n = some v ↔ n = (actionCode v).toNat := by
  constructor
  · unfold actionOfCode; split <;> intro h <;> cases h <;> rfl
  · rintro rfl; cases v <;> rfl

theorem latchOfCode_iff (n : Nat) (v : Latch) : latchOfCode n = some v ↔ n = (latchCode v).toNat := by
  constructor
  · unfold latchOfCode; split <;> intro h <;> cases h <;> rfl
  · rintro rfl; cases v <;> rfl

/-! ## Tables -/

/-- Every entry of a table is tested on its own. -/
theorem testTable_val (image : List Byte) (i hi : Nat) (d : Vector Nat 9) (k : Fin 9) :
    (testTable image i hi d).val[k] =
      if imageU16 image (i + 2 * k.val) ≤ hi then imageU16 image (i + 2 * k.val) else d[k] := by
  unfold testTable; fin_cases k <;> simp [(testNat_spec _ _ _ _).1]

/-- A table's order, entry by entry (R5). -/
theorem tablesInOrder_iff (c : ConfigSet) :
    tablesInOrder c = true ↔
      (∀ k : Fin 8, c.flowPoints[k.val] < c.flowPoints[k.val + 1]) ∧
        ∀ k : Fin 8, c.dutyPoints[k.val] ≤ c.dutyPoints[k.val + 1] := by
  simp [tablesInOrder, Fin.forall_fin_succ]

/-! ## Repairs -/

/-- The channels after the repairs. -/
theorem repair_analog (c : ConfigSet) (k : Fin 4) : (repair c).analog[k] = repairScale c.analog[k] := by
  have whole : (repair c).analog =
      #v[repairScale c.analog[0], repairScale c.analog[1], repairScale c.analog[2], repairScale c.analog[3]] := by
    simp only [repair, repairZones, repairTables, repairDmax]; split <;> split <;> split <;> rfl
  rw [whole]; fin_cases k <;> rfl

/-- The watch units after the repairs. -/
theorem repair_units (c : ConfigSet) (u : Fin 8) : (repair c).units[u] = repairUnit u c.units[u] := by
  have whole : (repair c).units =
      #v[repairUnit 0 c.units[0], repairUnit 1 c.units[1], repairUnit 2 c.units[2], repairUnit 3 c.units[3],
         repairUnit 4 c.units[4], repairUnit 5 c.units[5], repairUnit 6 c.units[6], repairUnit 7 c.units[7]] := by
    simp only [repair, repairZones, repairTables, repairDmax]; split <;> split <;> split <;> rfl
  rw [whole]; fin_cases u <;> rfl

/-- Every other field after the repairs. -/
theorem repair_eq (c : ConfigSet) :
    repair c =
      { c with
        dmax := if c.dmax < c.dmin then c.dmin else c.dmax
        flowPoints := if tablesInOrder c then c.flowPoints else defaultFlowPoints
        dutyPoints := if tablesInOrder c then c.dutyPoints else defaultDutyPoints
        analog := (repair c).analog, units := (repair c).units
        startZone := if c.endZone.val < c.startZone.val then 0 else c.startZone
        endZone := if c.endZone.val < c.startZone.val then 3 else c.endZone } := by
  have order : tablesInOrder (repairDmax c) = tablesInOrder c := by unfold repairDmax; split <;> rfl
  simp only [repair, repairZones, repairTables, order]
  by_cases h1 : c.dmax < c.dmin <;> by_cases h2 : tablesInOrder c = true <;>
    by_cases h3 : c.endZone.val < c.startZone.val <;> simp [repairDmax, h1, h2, h3]

end Sys2Proof.Machine
end

