-- ==== Sys2Proof/Laws/State.lean ====
section
/-! SUPPORT. What each update of one block does to every field of the state: the block it names takes the new value, every other
field keeps its own. -/

namespace Sys2Proof.Machine

variable (s : State)

/-! ## The station supervisor -/

@[simp] theorem State.mapSup_sup (f : Supervisor → Supervisor) : (s.mapSup f).sup = f s.sup := rfl
@[simp] theorem State.mapSup_rli (f : Supervisor → Supervisor) : (s.mapSup f).rli = s.rli := rfl
@[simp] theorem State.mapSup_lnk (f : Supervisor → Supervisor) : (s.mapSup f).lnk = s.lnk := rfl
@[simp] theorem State.mapSup_ros (f : Supervisor → Supervisor) : (s.mapSup f).ros = s.ros := rfl
@[simp] theorem State.mapSup_dsu (f : Supervisor → Supervisor) : (s.mapSup f).dsu = s.dsu := rfl
@[simp] theorem State.mapSup_msu (f : Supervisor → Supervisor) : (s.mapSup f).msu = s.msu := rfl
@[simp] theorem State.mapSup_wch (f : Supervisor → Supervisor) : (s.mapSup f).wch = s.wch := rfl
@[simp] theorem State.mapSup_shr (f : Supervisor → Supervisor) : (s.mapSup f).shr = s.shr := rfl
@[simp] theorem State.mapSup_vlv (f : Supervisor → Supervisor) : (s.mapSup f).vlv = s.vlv := rfl
@[simp] theorem State.mapSup_cap (f : Supervisor → Supervisor) : (s.mapSup f).cap = s.cap := rfl
@[simp] theorem State.mapSup_svc (f : Supervisor → Supervisor) : (s.mapSup f).svc = s.svc := rfl
@[simp] theorem State.mapSup_clk (f : Supervisor → Supervisor) : (s.mapSup f).clk = s.clk := rfl
@[simp] theorem State.mapSup_pending (f : Supervisor → Supervisor) : (s.mapSup f).pending = s.pending := rfl
@[simp] theorem State.mapSup_mapSup (f g : Supervisor → Supervisor) : (s.mapSup f).mapSup g = s.mapSup (fun x => g (f x)) := rfl

/-! ## The row line interface -/

@[simp] theorem State.mapRli_sup (f : RowLine → RowLine) : (s.mapRli f).sup = s.sup := rfl
@[simp] theorem State.mapRli_rli (f : RowLine → RowLine) : (s.mapRli f).rli = f s.rli := rfl
@[simp] theorem State.mapRli_lnk (f : RowLine → RowLine) : (s.mapRli f).lnk = s.lnk := rfl
@[simp] theorem State.mapRli_ros (f : RowLine → RowLine) : (s.mapRli f).ros = s.ros := rfl
@[simp] theorem State.mapRli_dsu (f : RowLine → RowLine) : (s.mapRli f).dsu = s.dsu := rfl
@[simp] theorem State.mapRli_msu (f : RowLine → RowLine) : (s.mapRli f).msu = s.msu := rfl
@[simp] theorem State.mapRli_wch (f : RowLine → RowLine) : (s.mapRli f).wch = s.wch := rfl
@[simp] theorem State.mapRli_shr (f : RowLine → RowLine) : (s.mapRli f).shr = s.shr := rfl
@[simp] theorem State.mapRli_vlv (f : RowLine → RowLine) : (s.mapRli f).vlv = s.vlv := rfl
@[simp] theorem State.mapRli_cap (f : RowLine → RowLine) : (s.mapRli f).cap = s.cap := rfl
@[simp] theorem State.mapRli_svc (f : RowLine → RowLine) : (s.mapRli f).svc = s.svc := rfl
@[simp] theorem State.mapRli_clk (f : RowLine → RowLine) : (s.mapRli f).clk = s.clk := rfl
@[simp] theorem State.mapRli_pending (f : RowLine → RowLine) : (s.mapRli f).pending = s.pending := rfl
@[simp] theorem State.mapRli_mapRli (f g : RowLine → RowLine) : (s.mapRli f).mapRli g = s.mapRli (fun x => g (f x)) := rfl

/-! ## The link controller -/

@[simp] theorem State.mapLnk_sup (f : Link → Link) : (s.mapLnk f).sup = s.sup := rfl
@[simp] theorem State.mapLnk_rli (f : Link → Link) : (s.mapLnk f).rli = s.rli := rfl
@[simp] theorem State.mapLnk_lnk (f : Link → Link) : (s.mapLnk f).lnk = f s.lnk := rfl
@[simp] theorem State.mapLnk_ros (f : Link → Link) : (s.mapLnk f).ros = s.ros := rfl
@[simp] theorem State.mapLnk_dsu (f : Link → Link) : (s.mapLnk f).dsu = s.dsu := rfl
@[simp] theorem State.mapLnk_msu (f : Link → Link) : (s.mapLnk f).msu = s.msu := rfl
@[simp] theorem State.mapLnk_wch (f : Link → Link) : (s.mapLnk f).wch = s.wch := rfl
@[simp] theorem State.mapLnk_shr (f : Link → Link) : (s.mapLnk f).shr = s.shr := rfl
@[simp] theorem State.mapLnk_vlv (f : Link → Link) : (s.mapLnk f).vlv = s.vlv := rfl
@[simp] theorem State.mapLnk_cap (f : Link → Link) : (s.mapLnk f).cap = s.cap := rfl
@[simp] theorem State.mapLnk_svc (f : Link → Link) : (s.mapLnk f).svc = s.svc := rfl
@[simp] theorem State.mapLnk_clk (f : Link → Link) : (s.mapLnk f).clk = s.clk := rfl
@[simp] theorem State.mapLnk_pending (f : Link → Link) : (s.mapLnk f).pending = s.pending := rfl
@[simp] theorem State.mapLnk_mapLnk (f g : Link → Link) : (s.mapLnk f).mapLnk g = s.mapLnk (fun x => g (f x)) := rfl

/-! ## The peer roster -/

@[simp] theorem State.mapRos_sup (f : Roster → Roster) : (s.mapRos f).sup = s.sup := rfl
@[simp] theorem State.mapRos_rli (f : Roster → Roster) : (s.mapRos f).rli = s.rli := rfl
@[simp] theorem State.mapRos_lnk (f : Roster → Roster) : (s.mapRos f).lnk = s.lnk := rfl
@[simp] theorem State.mapRos_ros (f : Roster → Roster) : (s.mapRos f).ros = f s.ros := rfl
@[simp] theorem State.mapRos_dsu (f : Roster → Roster) : (s.mapRos f).dsu = s.dsu := rfl
@[simp] theorem State.mapRos_msu (f : Roster → Roster) : (s.mapRos f).msu = s.msu := rfl
@[simp] theorem State.mapRos_wch (f : Roster → Roster) : (s.mapRos f).wch = s.wch := rfl
@[simp] theorem State.mapRos_shr (f : Roster → Roster) : (s.mapRos f).shr = s.shr := rfl
@[simp] theorem State.mapRos_vlv (f : Roster → Roster) : (s.mapRos f).vlv = s.vlv := rfl
@[simp] theorem State.mapRos_cap (f : Roster → Roster) : (s.mapRos f).cap = s.cap := rfl
@[simp] theorem State.mapRos_svc (f : Roster → Roster) : (s.mapRos f).svc = s.svc := rfl
@[simp] theorem State.mapRos_clk (f : Roster → Roster) : (s.mapRos f).clk = s.clk := rfl
@[simp] theorem State.mapRos_pending (f : Roster → Roster) : (s.mapRos f).pending = s.pending := rfl
@[simp] theorem State.mapRos_mapRos (f g : Roster → Roster) : (s.mapRos f).mapRos g = s.mapRos (fun x => g (f x)) := rfl

/-! ## The drip sensing unit -/

@[simp] theorem State.mapDsu_sup (f : DripUnit → DripUnit) : (s.mapDsu f).sup = s.sup := rfl
@[simp] theorem State.mapDsu_rli (f : DripUnit → DripUnit) : (s.mapDsu f).rli = s.rli := rfl
@[simp] theorem State.mapDsu_lnk (f : DripUnit → DripUnit) : (s.mapDsu f).lnk = s.lnk := rfl
@[simp] theorem State.mapDsu_ros (f : DripUnit → DripUnit) : (s.mapDsu f).ros = s.ros := rfl
@[simp] theorem State.mapDsu_dsu (f : DripUnit → DripUnit) : (s.mapDsu f).dsu = f s.dsu := rfl
@[simp] theorem State.mapDsu_msu (f : DripUnit → DripUnit) : (s.mapDsu f).msu = s.msu := rfl
@[simp] theorem State.mapDsu_wch (f : DripUnit → DripUnit) : (s.mapDsu f).wch = s.wch := rfl
@[simp] theorem State.mapDsu_shr (f : DripUnit → DripUnit) : (s.mapDsu f).shr = s.shr := rfl
@[simp] theorem State.mapDsu_vlv (f : DripUnit → DripUnit) : (s.mapDsu f).vlv = s.vlv := rfl
@[simp] theorem State.mapDsu_cap (f : DripUnit → DripUnit) : (s.mapDsu f).cap = s.cap := rfl
@[simp] theorem State.mapDsu_svc (f : DripUnit → DripUnit) : (s.mapDsu f).svc = s.svc := rfl
@[simp] theorem State.mapDsu_clk (f : DripUnit → DripUnit) : (s.mapDsu f).clk = s.clk := rfl
@[simp] theorem State.mapDsu_pending (f : DripUnit → DripUnit) : (s.mapDsu f).pending = s.pending := rfl
@[simp] theorem State.mapDsu_mapDsu (f g : DripUnit → DripUnit) : (s.mapDsu f).mapDsu g = s.mapDsu (fun x => g (f x)) := rfl

/-! ## The measurement unit -/

@[simp] theorem State.mapMsu_sup (f : Measure → Measure) : (s.mapMsu f).sup = s.sup := rfl
@[simp] theorem State.mapMsu_rli (f : Measure → Measure) : (s.mapMsu f).rli = s.rli := rfl
@[simp] theorem State.mapMsu_lnk (f : Measure → Measure) : (s.mapMsu f).lnk = s.lnk := rfl
@[simp] theorem State.mapMsu_ros (f : Measure → Measure) : (s.mapMsu f).ros = s.ros := rfl
@[simp] theorem State.mapMsu_dsu (f : Measure → Measure) : (s.mapMsu f).dsu = s.dsu := rfl
@[simp] theorem State.mapMsu_msu (f : Measure → Measure) : (s.mapMsu f).msu = f s.msu := rfl
@[simp] theorem State.mapMsu_wch (f : Measure → Measure) : (s.mapMsu f).wch = s.wch := rfl
@[simp] theorem State.mapMsu_shr (f : Measure → Measure) : (s.mapMsu f).shr = s.shr := rfl
@[simp] theorem State.mapMsu_vlv (f : Measure → Measure) : (s.mapMsu f).vlv = s.vlv := rfl
@[simp] theorem State.mapMsu_cap (f : Measure → Measure) : (s.mapMsu f).cap = s.cap := rfl
@[simp] theorem State.mapMsu_svc (f : Measure → Measure) : (s.mapMsu f).svc = s.svc := rfl
@[simp] theorem State.mapMsu_clk (f : Measure → Measure) : (s.mapMsu f).clk = s.clk := rfl
@[simp] theorem State.mapMsu_pending (f : Measure → Measure) : (s.mapMsu f).pending = s.pending := rfl
@[simp] theorem State.mapMsu_mapMsu (f g : Measure → Measure) : (s.mapMsu f).mapMsu g = s.mapMsu (fun x => g (f x)) := rfl

/-! ## The watch engine -/

@[simp] theorem State.mapWch_sup (f : Watch → Watch) : (s.mapWch f).sup = s.sup := rfl
@[simp] theorem State.mapWch_rli (f : Watch → Watch) : (s.mapWch f).rli = s.rli := rfl
@[simp] theorem State.mapWch_lnk (f : Watch → Watch) : (s.mapWch f).lnk = s.lnk := rfl
@[simp] theorem State.mapWch_ros (f : Watch → Watch) : (s.mapWch f).ros = s.ros := rfl
@[simp] theorem State.mapWch_dsu (f : Watch → Watch) : (s.mapWch f).dsu = s.dsu := rfl
@[simp] theorem State.mapWch_msu (f : Watch → Watch) : (s.mapWch f).msu = s.msu := rfl
@[simp] theorem State.mapWch_wch (f : Watch → Watch) : (s.mapWch f).wch = f s.wch := rfl
@[simp] theorem State.mapWch_shr (f : Watch → Watch) : (s.mapWch f).shr = s.shr := rfl
@[simp] theorem State.mapWch_vlv (f : Watch → Watch) : (s.mapWch f).vlv = s.vlv := rfl
@[simp] theorem State.mapWch_cap (f : Watch → Watch) : (s.mapWch f).cap = s.cap := rfl
@[simp] theorem State.mapWch_svc (f : Watch → Watch) : (s.mapWch f).svc = s.svc := rfl
@[simp] theorem State.mapWch_clk (f : Watch → Watch) : (s.mapWch f).clk = s.clk := rfl
@[simp] theorem State.mapWch_pending (f : Watch → Watch) : (s.mapWch f).pending = s.pending := rfl
@[simp] theorem State.mapWch_mapWch (f g : Watch → Watch) : (s.mapWch f).mapWch g = s.mapWch (fun x => g (f x)) := rfl

/-! ## The share computer -/

@[simp] theorem State.mapShr_sup (f : Share → Share) : (s.mapShr f).sup = s.sup := rfl
@[simp] theorem State.mapShr_rli (f : Share → Share) : (s.mapShr f).rli = s.rli := rfl
@[simp] theorem State.mapShr_lnk (f : Share → Share) : (s.mapShr f).lnk = s.lnk := rfl
@[simp] theorem State.mapShr_ros (f : Share → Share) : (s.mapShr f).ros = s.ros := rfl
@[simp] theorem State.mapShr_dsu (f : Share → Share) : (s.mapShr f).dsu = s.dsu := rfl
@[simp] theorem State.mapShr_msu (f : Share → Share) : (s.mapShr f).msu = s.msu := rfl
@[simp] theorem State.mapShr_wch (f : Share → Share) : (s.mapShr f).wch = s.wch := rfl
@[simp] theorem State.mapShr_shr (f : Share → Share) : (s.mapShr f).shr = f s.shr := rfl
@[simp] theorem State.mapShr_vlv (f : Share → Share) : (s.mapShr f).vlv = s.vlv := rfl
@[simp] theorem State.mapShr_cap (f : Share → Share) : (s.mapShr f).cap = s.cap := rfl
@[simp] theorem State.mapShr_svc (f : Share → Share) : (s.mapShr f).svc = s.svc := rfl
@[simp] theorem State.mapShr_clk (f : Share → Share) : (s.mapShr f).clk = s.clk := rfl
@[simp] theorem State.mapShr_pending (f : Share → Share) : (s.mapShr f).pending = s.pending := rfl
@[simp] theorem State.mapShr_mapShr (f g : Share → Share) : (s.mapShr f).mapShr g = s.mapShr (fun x => g (f x)) := rfl

/-! ## The valve drive -/

@[simp] theorem State.mapVlv_sup (f : Valve → Valve) : (s.mapVlv f).sup = s.sup := rfl
@[simp] theorem State.mapVlv_rli (f : Valve → Valve) : (s.mapVlv f).rli = s.rli := rfl
@[simp] theorem State.mapVlv_lnk (f : Valve → Valve) : (s.mapVlv f).lnk = s.lnk := rfl
@[simp] theorem State.mapVlv_ros (f : Valve → Valve) : (s.mapVlv f).ros = s.ros := rfl
@[simp] theorem State.mapVlv_dsu (f : Valve → Valve) : (s.mapVlv f).dsu = s.dsu := rfl
@[simp] theorem State.mapVlv_msu (f : Valve → Valve) : (s.mapVlv f).msu = s.msu := rfl
@[simp] theorem State.mapVlv_wch (f : Valve → Valve) : (s.mapVlv f).wch = s.wch := rfl
@[simp] theorem State.mapVlv_shr (f : Valve → Valve) : (s.mapVlv f).shr = s.shr := rfl
@[simp] theorem State.mapVlv_vlv (f : Valve → Valve) : (s.mapVlv f).vlv = f s.vlv := rfl
@[simp] theorem State.mapVlv_cap (f : Valve → Valve) : (s.mapVlv f).cap = s.cap := rfl
@[simp] theorem State.mapVlv_svc (f : Valve → Valve) : (s.mapVlv f).svc = s.svc := rfl
@[simp] theorem State.mapVlv_clk (f : Valve → Valve) : (s.mapVlv f).clk = s.clk := rfl
@[simp] theorem State.mapVlv_pending (f : Valve → Valve) : (s.mapVlv f).pending = s.pending := rfl
@[simp] theorem State.mapVlv_mapVlv (f g : Valve → Valve) : (s.mapVlv f).mapVlv g = s.mapVlv (fun x => g (f x)) := rfl

/-! ## The capture history -/

@[simp] theorem State.mapCap_sup (f : Capture → Capture) : (s.mapCap f).sup = s.sup := rfl
@[simp] theorem State.mapCap_rli (f : Capture → Capture) : (s.mapCap f).rli = s.rli := rfl
@[simp] theorem State.mapCap_lnk (f : Capture → Capture) : (s.mapCap f).lnk = s.lnk := rfl
@[simp] theorem State.mapCap_ros (f : Capture → Capture) : (s.mapCap f).ros = s.ros := rfl
@[simp] theorem State.mapCap_dsu (f : Capture → Capture) : (s.mapCap f).dsu = s.dsu := rfl
@[simp] theorem State.mapCap_msu (f : Capture → Capture) : (s.mapCap f).msu = s.msu := rfl
@[simp] theorem State.mapCap_wch (f : Capture → Capture) : (s.mapCap f).wch = s.wch := rfl
@[simp] theorem State.mapCap_shr (f : Capture → Capture) : (s.mapCap f).shr = s.shr := rfl
@[simp] theorem State.mapCap_vlv (f : Capture → Capture) : (s.mapCap f).vlv = s.vlv := rfl
@[simp] theorem State.mapCap_cap (f : Capture → Capture) : (s.mapCap f).cap = f s.cap := rfl
@[simp] theorem State.mapCap_svc (f : Capture → Capture) : (s.mapCap f).svc = s.svc := rfl
@[simp] theorem State.mapCap_clk (f : Capture → Capture) : (s.mapCap f).clk = s.clk := rfl
@[simp] theorem State.mapCap_pending (f : Capture → Capture) : (s.mapCap f).pending = s.pending := rfl
@[simp] theorem State.mapCap_mapCap (f g : Capture → Capture) : (s.mapCap f).mapCap g = s.mapCap (fun x => g (f x)) := rfl

/-! ## The service port -/

@[simp] theorem State.mapSvc_sup (f : Service → Service) : (s.mapSvc f).sup = s.sup := rfl
@[simp] theorem State.mapSvc_rli (f : Service → Service) : (s.mapSvc f).rli = s.rli := rfl
@[simp] theorem State.mapSvc_lnk (f : Service → Service) : (s.mapSvc f).lnk = s.lnk := rfl
@[simp] theorem State.mapSvc_ros (f : Service → Service) : (s.mapSvc f).ros = s.ros := rfl
@[simp] theorem State.mapSvc_dsu (f : Service → Service) : (s.mapSvc f).dsu = s.dsu := rfl
@[simp] theorem State.mapSvc_msu (f : Service → Service) : (s.mapSvc f).msu = s.msu := rfl
@[simp] theorem State.mapSvc_wch (f : Service → Service) : (s.mapSvc f).wch = s.wch := rfl
@[simp] theorem State.mapSvc_shr (f : Service → Service) : (s.mapSvc f).shr = s.shr := rfl
@[simp] theorem State.mapSvc_vlv (f : Service → Service) : (s.mapSvc f).vlv = s.vlv := rfl
@[simp] theorem State.mapSvc_cap (f : Service → Service) : (s.mapSvc f).cap = s.cap := rfl
@[simp] theorem State.mapSvc_svc (f : Service → Service) : (s.mapSvc f).svc = f s.svc := rfl
@[simp] theorem State.mapSvc_clk (f : Service → Service) : (s.mapSvc f).clk = s.clk := rfl
@[simp] theorem State.mapSvc_pending (f : Service → Service) : (s.mapSvc f).pending = s.pending := rfl
@[simp] theorem State.mapSvc_mapSvc (f g : Service → Service) : (s.mapSvc f).mapSvc g = s.mapSvc (fun x => g (f x)) := rfl

/-! ## The clock -/

@[simp] theorem State.mapClk_sup (f : Clock → Clock) : (s.mapClk f).sup = s.sup := rfl
@[simp] theorem State.mapClk_rli (f : Clock → Clock) : (s.mapClk f).rli = s.rli := rfl
@[simp] theorem State.mapClk_lnk (f : Clock → Clock) : (s.mapClk f).lnk = s.lnk := rfl
@[simp] theorem State.mapClk_ros (f : Clock → Clock) : (s.mapClk f).ros = s.ros := rfl
@[simp] theorem State.mapClk_dsu (f : Clock → Clock) : (s.mapClk f).dsu = s.dsu := rfl
@[simp] theorem State.mapClk_msu (f : Clock → Clock) : (s.mapClk f).msu = s.msu := rfl
@[simp] theorem State.mapClk_wch (f : Clock → Clock) : (s.mapClk f).wch = s.wch := rfl
@[simp] theorem State.mapClk_shr (f : Clock → Clock) : (s.mapClk f).shr = s.shr := rfl
@[simp] theorem State.mapClk_vlv (f : Clock → Clock) : (s.mapClk f).vlv = s.vlv := rfl
@[simp] theorem State.mapClk_cap (f : Clock → Clock) : (s.mapClk f).cap = s.cap := rfl
@[simp] theorem State.mapClk_svc (f : Clock → Clock) : (s.mapClk f).svc = s.svc := rfl
@[simp] theorem State.mapClk_clk (f : Clock → Clock) : (s.mapClk f).clk = f s.clk := rfl
@[simp] theorem State.mapClk_pending (f : Clock → Clock) : (s.mapClk f).pending = s.pending := rfl
@[simp] theorem State.mapClk_mapClk (f g : Clock → Clock) : (s.mapClk f).mapClk g = s.mapClk (fun x => g (f x)) := rfl

end Sys2Proof.Machine
end

