-- ==== Sys2Proof/Laws/Frames.lean ====
section
/-! SUPPORT. What each shared operation leaves alone: for every operation and every block it does not touch, that block is the same
after it; and whatever it does at the supervisor, the straps, the configuration set and the load stay (and the mode, for an operation
that does not change it). -/

namespace Sys2Proof.Machine

variable (s : State)

/-- A fold keeps what each of its steps keeps. -/
theorem foldl_keeps {α β : Type} (g : State → β) (f : State → α → State) (h : ∀ t a, g (f t a) = g t) (l : List α) :
    ∀ t, g (l.foldl f t) = g t := by
  induction l with
  | nil => intro t; rfl
  | cons a l ih => intro t; rw [List.foldl_cons, ih, h]

/-! ## Flags -/

@[simp] theorem reevalSensorFault_rli : (reevalSensorFault s).rli = s.rli := by
  simp [reevalSensorFault]
@[simp] theorem reevalSensorFault_lnk : (reevalSensorFault s).lnk = s.lnk := by
  simp [reevalSensorFault]
@[simp] theorem reevalSensorFault_ros : (reevalSensorFault s).ros = s.ros := by
  simp [reevalSensorFault]
@[simp] theorem reevalSensorFault_dsu : (reevalSensorFault s).dsu = s.dsu := by
  simp [reevalSensorFault]
@[simp] theorem reevalSensorFault_msu : (reevalSensorFault s).msu = s.msu := by
  simp [reevalSensorFault]
@[simp] theorem reevalSensorFault_wch : (reevalSensorFault s).wch = s.wch := by
  simp [reevalSensorFault]
@[simp] theorem reevalSensorFault_shr : (reevalSensorFault s).shr = s.shr := by
  simp [reevalSensorFault]
@[simp] theorem reevalSensorFault_vlv : (reevalSensorFault s).vlv = s.vlv := by
  simp [reevalSensorFault]
@[simp] theorem reevalSensorFault_cap : (reevalSensorFault s).cap = s.cap := by
  simp [reevalSensorFault]
@[simp] theorem reevalSensorFault_svc : (reevalSensorFault s).svc = s.svc := by
  simp [reevalSensorFault]
@[simp] theorem reevalSensorFault_clk : (reevalSensorFault s).clk = s.clk := by
  simp [reevalSensorFault]
@[simp] theorem reevalSensorFault_pending : (reevalSensorFault s).pending = s.pending := by
  simp [reevalSensorFault]
@[simp] theorem reevalSensorFault_cfg : (reevalSensorFault s).sup.cfg = s.sup.cfg := by
  simp [reevalSensorFault]
@[simp] theorem reevalSensorFault_ownAddr : (reevalSensorFault s).sup.ownAddr = s.sup.ownAddr := by
  simp [reevalSensorFault]
@[simp] theorem reevalSensorFault_ownSeg : (reevalSensorFault s).sup.ownSeg = s.sup.ownSeg := by
  simp [reevalSensorFault]
@[simp] theorem reevalSensorFault_loading : (reevalSensorFault s).sup.loading = s.sup.loading := by
  simp [reevalSensorFault]
@[simp] theorem reevalSensorFault_mode : (reevalSensorFault s).sup.mode = s.sup.mode := by
  simp [reevalSensorFault]

@[simp] theorem setWatchFired_rli : (setWatchFired s).rli = s.rli := by
  simp [setWatchFired]
@[simp] theorem setWatchFired_lnk : (setWatchFired s).lnk = s.lnk := by
  simp [setWatchFired]
@[simp] theorem setWatchFired_ros : (setWatchFired s).ros = s.ros := by
  simp [setWatchFired]
@[simp] theorem setWatchFired_dsu : (setWatchFired s).dsu = s.dsu := by
  simp [setWatchFired]
@[simp] theorem setWatchFired_msu : (setWatchFired s).msu = s.msu := by
  simp [setWatchFired]
@[simp] theorem setWatchFired_wch : (setWatchFired s).wch = s.wch := by
  simp [setWatchFired]
@[simp] theorem setWatchFired_shr : (setWatchFired s).shr = s.shr := by
  simp [setWatchFired]
@[simp] theorem setWatchFired_vlv : (setWatchFired s).vlv = s.vlv := by
  simp [setWatchFired]
@[simp] theorem setWatchFired_cap : (setWatchFired s).cap = s.cap := by
  simp [setWatchFired]
@[simp] theorem setWatchFired_svc : (setWatchFired s).svc = s.svc := by
  simp [setWatchFired]
@[simp] theorem setWatchFired_clk : (setWatchFired s).clk = s.clk := by
  simp [setWatchFired]
@[simp] theorem setWatchFired_pending : (setWatchFired s).pending = s.pending := by
  simp [setWatchFired]
@[simp] theorem setWatchFired_cfg : (setWatchFired s).sup.cfg = s.sup.cfg := by
  simp [setWatchFired]
@[simp] theorem setWatchFired_ownAddr : (setWatchFired s).sup.ownAddr = s.sup.ownAddr := by
  simp [setWatchFired]
@[simp] theorem setWatchFired_ownSeg : (setWatchFired s).sup.ownSeg = s.sup.ownSeg := by
  simp [setWatchFired]
@[simp] theorem setWatchFired_loading : (setWatchFired s).sup.loading = s.sup.loading := by
  simp [setWatchFired]
@[simp] theorem setWatchFired_mode : (setWatchFired s).sup.mode = s.sup.mode := by
  simp [setWatchFired]

@[simp] theorem reevalWatchFired_rli : (reevalWatchFired s).rli = s.rli := by
  simp [reevalWatchFired]
@[simp] theorem reevalWatchFired_lnk : (reevalWatchFired s).lnk = s.lnk := by
  simp [reevalWatchFired]
@[simp] theorem reevalWatchFired_ros : (reevalWatchFired s).ros = s.ros := by
  simp [reevalWatchFired]
@[simp] theorem reevalWatchFired_dsu : (reevalWatchFired s).dsu = s.dsu := by
  simp [reevalWatchFired]
@[simp] theorem reevalWatchFired_msu : (reevalWatchFired s).msu = s.msu := by
  simp [reevalWatchFired]
@[simp] theorem reevalWatchFired_wch : (reevalWatchFired s).wch = s.wch := by
  simp [reevalWatchFired]
@[simp] theorem reevalWatchFired_shr : (reevalWatchFired s).shr = s.shr := by
  simp [reevalWatchFired]
@[simp] theorem reevalWatchFired_vlv : (reevalWatchFired s).vlv = s.vlv := by
  simp [reevalWatchFired]
@[simp] theorem reevalWatchFired_cap : (reevalWatchFired s).cap = s.cap := by
  simp [reevalWatchFired]
@[simp] theorem reevalWatchFired_svc : (reevalWatchFired s).svc = s.svc := by
  simp [reevalWatchFired]
@[simp] theorem reevalWatchFired_clk : (reevalWatchFired s).clk = s.clk := by
  simp [reevalWatchFired]
@[simp] theorem reevalWatchFired_pending : (reevalWatchFired s).pending = s.pending := by
  simp [reevalWatchFired]
@[simp] theorem reevalWatchFired_cfg : (reevalWatchFired s).sup.cfg = s.sup.cfg := by
  simp [reevalWatchFired]
@[simp] theorem reevalWatchFired_ownAddr : (reevalWatchFired s).sup.ownAddr = s.sup.ownAddr := by
  simp [reevalWatchFired]
@[simp] theorem reevalWatchFired_ownSeg : (reevalWatchFired s).sup.ownSeg = s.sup.ownSeg := by
  simp [reevalWatchFired]
@[simp] theorem reevalWatchFired_loading : (reevalWatchFired s).sup.loading = s.sup.loading := by
  simp [reevalWatchFired]
@[simp] theorem reevalWatchFired_mode : (reevalWatchFired s).sup.mode = s.sup.mode := by
  simp [reevalWatchFired]

@[simp] theorem updateAttn_sup : (updateAttn s).sup = s.sup := by
  simp [updateAttn]
@[simp] theorem updateAttn_rli : (updateAttn s).rli = s.rli := by
  simp [updateAttn]
@[simp] theorem updateAttn_lnk : (updateAttn s).lnk = s.lnk := by
  simp [updateAttn]
@[simp] theorem updateAttn_ros : (updateAttn s).ros = s.ros := by
  simp [updateAttn]
@[simp] theorem updateAttn_dsu : (updateAttn s).dsu = s.dsu := by
  simp [updateAttn]
@[simp] theorem updateAttn_msu : (updateAttn s).msu = s.msu := by
  simp [updateAttn]
@[simp] theorem updateAttn_wch : (updateAttn s).wch = s.wch := by
  simp [updateAttn]
@[simp] theorem updateAttn_shr : (updateAttn s).shr = s.shr := by
  simp [updateAttn]
@[simp] theorem updateAttn_vlv : (updateAttn s).vlv = s.vlv := by
  simp [updateAttn]
@[simp] theorem updateAttn_cap : (updateAttn s).cap = s.cap := by
  simp [updateAttn]
@[simp] theorem updateAttn_clk : (updateAttn s).clk = s.clk := by
  simp [updateAttn]
@[simp] theorem updateAttn_pending : (updateAttn s).pending = s.pending := by
  simp [updateAttn]

/-! ## Capture history -/

@[simp] theorem handRecord_sup (b : RecordBody) : (handRecord b s).sup = s.sup := by
  simp [handRecord]
@[simp] theorem handRecord_rli (b : RecordBody) : (handRecord b s).rli = s.rli := by
  simp [handRecord]
@[simp] theorem handRecord_lnk (b : RecordBody) : (handRecord b s).lnk = s.lnk := by
  simp [handRecord]
@[simp] theorem handRecord_ros (b : RecordBody) : (handRecord b s).ros = s.ros := by
  simp [handRecord]
@[simp] theorem handRecord_dsu (b : RecordBody) : (handRecord b s).dsu = s.dsu := by
  simp [handRecord]
@[simp] theorem handRecord_msu (b : RecordBody) : (handRecord b s).msu = s.msu := by
  simp [handRecord]
@[simp] theorem handRecord_wch (b : RecordBody) : (handRecord b s).wch = s.wch := by
  simp [handRecord]
@[simp] theorem handRecord_shr (b : RecordBody) : (handRecord b s).shr = s.shr := by
  simp [handRecord]
@[simp] theorem handRecord_vlv (b : RecordBody) : (handRecord b s).vlv = s.vlv := by
  simp [handRecord]
@[simp] theorem handRecord_svc (b : RecordBody) : (handRecord b s).svc = s.svc := by
  simp [handRecord]
@[simp] theorem handRecord_clk (b : RecordBody) : (handRecord b s).clk = s.clk := by
  simp [handRecord]
@[simp] theorem handRecord_pending (b : RecordBody) : (handRecord b s).pending = s.pending := by
  simp [handRecord]

@[simp] theorem handEvent_sup (e : CaptureEvent) : (handEvent e s).sup = s.sup := by
  simp [handEvent]
@[simp] theorem handEvent_rli (e : CaptureEvent) : (handEvent e s).rli = s.rli := by
  simp [handEvent]
@[simp] theorem handEvent_lnk (e : CaptureEvent) : (handEvent e s).lnk = s.lnk := by
  simp [handEvent]
@[simp] theorem handEvent_ros (e : CaptureEvent) : (handEvent e s).ros = s.ros := by
  simp [handEvent]
@[simp] theorem handEvent_dsu (e : CaptureEvent) : (handEvent e s).dsu = s.dsu := by
  simp [handEvent]
@[simp] theorem handEvent_msu (e : CaptureEvent) : (handEvent e s).msu = s.msu := by
  simp [handEvent]
@[simp] theorem handEvent_wch (e : CaptureEvent) : (handEvent e s).wch = s.wch := by
  simp [handEvent]
@[simp] theorem handEvent_shr (e : CaptureEvent) : (handEvent e s).shr = s.shr := by
  simp [handEvent]
@[simp] theorem handEvent_vlv (e : CaptureEvent) : (handEvent e s).vlv = s.vlv := by
  simp [handEvent]
@[simp] theorem handEvent_svc (e : CaptureEvent) : (handEvent e s).svc = s.svc := by
  simp [handEvent]
@[simp] theorem handEvent_clk (e : CaptureEvent) : (handEvent e s).clk = s.clk := by
  simp [handEvent]
@[simp] theorem handEvent_pending (e : CaptureEvent) : (handEvent e s).pending = s.pending := by
  simp [handEvent]

@[simp] theorem requestFreeze_sup (r : FreezeReason) (u : Option (Fin 8)) : (requestFreeze r u s).sup = s.sup := by
  simp [requestFreeze]
@[simp] theorem requestFreeze_rli (r : FreezeReason) (u : Option (Fin 8)) : (requestFreeze r u s).rli = s.rli := by
  simp [requestFreeze]
@[simp] theorem requestFreeze_lnk (r : FreezeReason) (u : Option (Fin 8)) : (requestFreeze r u s).lnk = s.lnk := by
  simp [requestFreeze]
@[simp] theorem requestFreeze_ros (r : FreezeReason) (u : Option (Fin 8)) : (requestFreeze r u s).ros = s.ros := by
  simp [requestFreeze]
@[simp] theorem requestFreeze_dsu (r : FreezeReason) (u : Option (Fin 8)) : (requestFreeze r u s).dsu = s.dsu := by
  simp [requestFreeze]
@[simp] theorem requestFreeze_msu (r : FreezeReason) (u : Option (Fin 8)) : (requestFreeze r u s).msu = s.msu := by
  simp [requestFreeze]
@[simp] theorem requestFreeze_wch (r : FreezeReason) (u : Option (Fin 8)) : (requestFreeze r u s).wch = s.wch := by
  simp [requestFreeze]
@[simp] theorem requestFreeze_shr (r : FreezeReason) (u : Option (Fin 8)) : (requestFreeze r u s).shr = s.shr := by
  simp [requestFreeze]
@[simp] theorem requestFreeze_vlv (r : FreezeReason) (u : Option (Fin 8)) : (requestFreeze r u s).vlv = s.vlv := by
  simp [requestFreeze]
@[simp] theorem requestFreeze_svc (r : FreezeReason) (u : Option (Fin 8)) : (requestFreeze r u s).svc = s.svc := by
  simp [requestFreeze]
@[simp] theorem requestFreeze_clk (r : FreezeReason) (u : Option (Fin 8)) : (requestFreeze r u s).clk = s.clk := by
  simp [requestFreeze]
@[simp] theorem requestFreeze_pending (r : FreezeReason) (u : Option (Fin 8)) : (requestFreeze r u s).pending = s.pending := by
  simp [requestFreeze]

/-! ## Link controller -/

@[simp] theorem setStatusPending_sup : (setStatusPending s).sup = s.sup := by
  simp [setStatusPending]
@[simp] theorem setStatusPending_rli : (setStatusPending s).rli = s.rli := by
  simp [setStatusPending]
@[simp] theorem setStatusPending_ros : (setStatusPending s).ros = s.ros := by
  simp [setStatusPending]
@[simp] theorem setStatusPending_dsu : (setStatusPending s).dsu = s.dsu := by
  simp [setStatusPending]
@[simp] theorem setStatusPending_msu : (setStatusPending s).msu = s.msu := by
  simp [setStatusPending]
@[simp] theorem setStatusPending_wch : (setStatusPending s).wch = s.wch := by
  simp [setStatusPending]
@[simp] theorem setStatusPending_shr : (setStatusPending s).shr = s.shr := by
  simp [setStatusPending]
@[simp] theorem setStatusPending_vlv : (setStatusPending s).vlv = s.vlv := by
  simp [setStatusPending]
@[simp] theorem setStatusPending_cap : (setStatusPending s).cap = s.cap := by
  simp [setStatusPending]
@[simp] theorem setStatusPending_svc : (setStatusPending s).svc = s.svc := by
  simp [setStatusPending]
@[simp] theorem setStatusPending_clk : (setStatusPending s).clk = s.clk := by
  simp [setStatusPending]
@[simp] theorem setStatusPending_pending : (setStatusPending s).pending = s.pending := by
  simp [setStatusPending]

@[simp] theorem queueEvent_sup (f : EventFrame) : (queueEvent f s).sup = s.sup := by
  simp [queueEvent]
@[simp] theorem queueEvent_rli (f : EventFrame) : (queueEvent f s).rli = s.rli := by
  simp [queueEvent]
@[simp] theorem queueEvent_ros (f : EventFrame) : (queueEvent f s).ros = s.ros := by
  simp [queueEvent]
@[simp] theorem queueEvent_dsu (f : EventFrame) : (queueEvent f s).dsu = s.dsu := by
  simp [queueEvent]
@[simp] theorem queueEvent_msu (f : EventFrame) : (queueEvent f s).msu = s.msu := by
  simp [queueEvent]
@[simp] theorem queueEvent_wch (f : EventFrame) : (queueEvent f s).wch = s.wch := by
  simp [queueEvent]
@[simp] theorem queueEvent_shr (f : EventFrame) : (queueEvent f s).shr = s.shr := by
  simp [queueEvent]
@[simp] theorem queueEvent_vlv (f : EventFrame) : (queueEvent f s).vlv = s.vlv := by
  simp [queueEvent]
@[simp] theorem queueEvent_cap (f : EventFrame) : (queueEvent f s).cap = s.cap := by
  simp [queueEvent]
@[simp] theorem queueEvent_svc (f : EventFrame) : (queueEvent f s).svc = s.svc := by
  simp [queueEvent]
@[simp] theorem queueEvent_clk (f : EventFrame) : (queueEvent f s).clk = s.clk := by
  simp [queueEvent]
@[simp] theorem queueEvent_pending (f : EventFrame) : (queueEvent f s).pending = s.pending := by
  simp [queueEvent]

@[simp] theorem queueDrip_sup (v : Severity) : (queueDrip v s).sup = s.sup := by
  simp [queueDrip]
@[simp] theorem queueDrip_rli (v : Severity) : (queueDrip v s).rli = s.rli := by
  simp [queueDrip]
@[simp] theorem queueDrip_ros (v : Severity) : (queueDrip v s).ros = s.ros := by
  simp [queueDrip]
@[simp] theorem queueDrip_dsu (v : Severity) : (queueDrip v s).dsu = s.dsu := by
  simp [queueDrip]
@[simp] theorem queueDrip_msu (v : Severity) : (queueDrip v s).msu = s.msu := by
  simp [queueDrip]
@[simp] theorem queueDrip_wch (v : Severity) : (queueDrip v s).wch = s.wch := by
  simp [queueDrip]
@[simp] theorem queueDrip_shr (v : Severity) : (queueDrip v s).shr = s.shr := by
  simp [queueDrip]
@[simp] theorem queueDrip_vlv (v : Severity) : (queueDrip v s).vlv = s.vlv := by
  simp [queueDrip]
@[simp] theorem queueDrip_cap (v : Severity) : (queueDrip v s).cap = s.cap := by
  simp [queueDrip]
@[simp] theorem queueDrip_svc (v : Severity) : (queueDrip v s).svc = s.svc := by
  simp [queueDrip]
@[simp] theorem queueDrip_clk (v : Severity) : (queueDrip v s).clk = s.clk := by
  simp [queueDrip]
@[simp] theorem queueDrip_pending (v : Severity) : (queueDrip v s).pending = s.pending := by
  simp [queueDrip]

/-! ## Valve drive -/

@[simp] theorem enterValve_sup (v : ValveState) : (enterValve v s).sup = s.sup := by
  simp [enterValve]
@[simp] theorem enterValve_rli (v : ValveState) : (enterValve v s).rli = s.rli := by
  simp [enterValve]
@[simp] theorem enterValve_lnk (v : ValveState) : (enterValve v s).lnk = s.lnk := by
  simp [enterValve]
@[simp] theorem enterValve_ros (v : ValveState) : (enterValve v s).ros = s.ros := by
  simp [enterValve]
@[simp] theorem enterValve_dsu (v : ValveState) : (enterValve v s).dsu = s.dsu := by
  simp [enterValve]
@[simp] theorem enterValve_msu (v : ValveState) : (enterValve v s).msu = s.msu := by
  simp [enterValve]
@[simp] theorem enterValve_wch (v : ValveState) : (enterValve v s).wch = s.wch := by
  simp [enterValve]
@[simp] theorem enterValve_shr (v : ValveState) : (enterValve v s).shr = s.shr := by
  simp [enterValve]
@[simp] theorem enterValve_svc (v : ValveState) : (enterValve v s).svc = s.svc := by
  simp [enterValve]
@[simp] theorem enterValve_clk (v : ValveState) : (enterValve v s).clk = s.clk := by
  simp [enterValve]
@[simp] theorem enterValve_pending (v : ValveState) : (enterValve v s).pending = s.pending := by
  simp [enterValve]

@[simp] theorem startOpening_sup : (startOpening s).sup = s.sup := by
  simp [startOpening]
@[simp] theorem startOpening_rli : (startOpening s).rli = s.rli := by
  simp [startOpening]
@[simp] theorem startOpening_lnk : (startOpening s).lnk = s.lnk := by
  simp [startOpening]
@[simp] theorem startOpening_ros : (startOpening s).ros = s.ros := by
  simp [startOpening]
@[simp] theorem startOpening_dsu : (startOpening s).dsu = s.dsu := by
  simp [startOpening]
@[simp] theorem startOpening_msu : (startOpening s).msu = s.msu := by
  simp [startOpening]
@[simp] theorem startOpening_wch : (startOpening s).wch = s.wch := by
  simp [startOpening]
@[simp] theorem startOpening_shr : (startOpening s).shr = s.shr := by
  simp [startOpening]
@[simp] theorem startOpening_svc : (startOpening s).svc = s.svc := by
  simp [startOpening]
@[simp] theorem startOpening_clk : (startOpening s).clk = s.clk := by
  simp [startOpening]
@[simp] theorem startOpening_pending : (startOpening s).pending = s.pending := by
  simp [startOpening]

@[simp] theorem startClosing_sup : (startClosing s).sup = s.sup := by
  simp [startClosing]
@[simp] theorem startClosing_rli : (startClosing s).rli = s.rli := by
  simp [startClosing]
@[simp] theorem startClosing_lnk : (startClosing s).lnk = s.lnk := by
  simp [startClosing]
@[simp] theorem startClosing_ros : (startClosing s).ros = s.ros := by
  simp [startClosing]
@[simp] theorem startClosing_dsu : (startClosing s).dsu = s.dsu := by
  simp [startClosing]
@[simp] theorem startClosing_msu : (startClosing s).msu = s.msu := by
  simp [startClosing]
@[simp] theorem startClosing_wch : (startClosing s).wch = s.wch := by
  simp [startClosing]
@[simp] theorem startClosing_shr : (startClosing s).shr = s.shr := by
  simp [startClosing]
@[simp] theorem startClosing_svc : (startClosing s).svc = s.svc := by
  simp [startClosing]
@[simp] theorem startClosing_clk : (startClosing s).clk = s.clk := by
  simp [startClosing]
@[simp] theorem startClosing_pending : (startClosing s).pending = s.pending := by
  simp [startClosing]

@[simp] theorem openRequest_sup : (openRequest s).sup = s.sup := by
  unfold openRequest; split <;> simp
@[simp] theorem openRequest_rli : (openRequest s).rli = s.rli := by
  unfold openRequest; split <;> simp
@[simp] theorem openRequest_lnk : (openRequest s).lnk = s.lnk := by
  unfold openRequest; split <;> simp
@[simp] theorem openRequest_ros : (openRequest s).ros = s.ros := by
  unfold openRequest; split <;> simp
@[simp] theorem openRequest_dsu : (openRequest s).dsu = s.dsu := by
  unfold openRequest; split <;> simp
@[simp] theorem openRequest_msu : (openRequest s).msu = s.msu := by
  unfold openRequest; split <;> simp
@[simp] theorem openRequest_wch : (openRequest s).wch = s.wch := by
  unfold openRequest; split <;> simp
@[simp] theorem openRequest_shr : (openRequest s).shr = s.shr := by
  unfold openRequest; split <;> simp
@[simp] theorem openRequest_svc : (openRequest s).svc = s.svc := by
  unfold openRequest; split <;> simp
@[simp] theorem openRequest_clk : (openRequest s).clk = s.clk := by
  unfold openRequest; split <;> simp
@[simp] theorem openRequest_pending : (openRequest s).pending = s.pending := by
  unfold openRequest; split <;> simp

@[simp] theorem closeRequest_sup : (closeRequest s).sup = s.sup := by
  unfold closeRequest; split <;> simp
@[simp] theorem closeRequest_rli : (closeRequest s).rli = s.rli := by
  unfold closeRequest; split <;> simp
@[simp] theorem closeRequest_lnk : (closeRequest s).lnk = s.lnk := by
  unfold closeRequest; split <;> simp
@[simp] theorem closeRequest_ros : (closeRequest s).ros = s.ros := by
  unfold closeRequest; split <;> simp
@[simp] theorem closeRequest_dsu : (closeRequest s).dsu = s.dsu := by
  unfold closeRequest; split <;> simp
@[simp] theorem closeRequest_msu : (closeRequest s).msu = s.msu := by
  unfold closeRequest; split <;> simp
@[simp] theorem closeRequest_wch : (closeRequest s).wch = s.wch := by
  unfold closeRequest; split <;> simp
@[simp] theorem closeRequest_shr : (closeRequest s).shr = s.shr := by
  unfold closeRequest; split <;> simp
@[simp] theorem closeRequest_svc : (closeRequest s).svc = s.svc := by
  unfold closeRequest; split <;> simp
@[simp] theorem closeRequest_clk : (closeRequest s).clk = s.clk := by
  unfold closeRequest; split <;> simp
@[simp] theorem closeRequest_pending : (closeRequest s).pending = s.pending := by
  unfold closeRequest; split <;> simp

/-! ## Drip sensing unit -/

@[simp] theorem urgentTrigger_sup : (urgentTrigger s).sup = s.sup := by
  simp [urgentTrigger]
@[simp] theorem urgentTrigger_rli : (urgentTrigger s).rli = s.rli := by
  simp [urgentTrigger]
@[simp] theorem urgentTrigger_lnk : (urgentTrigger s).lnk = s.lnk := by
  simp [urgentTrigger]
@[simp] theorem urgentTrigger_ros : (urgentTrigger s).ros = s.ros := by
  simp [urgentTrigger]
@[simp] theorem urgentTrigger_msu : (urgentTrigger s).msu = s.msu := by
  simp [urgentTrigger]
@[simp] theorem urgentTrigger_wch : (urgentTrigger s).wch = s.wch := by
  simp [urgentTrigger]
@[simp] theorem urgentTrigger_shr : (urgentTrigger s).shr = s.shr := by
  simp [urgentTrigger]
@[simp] theorem urgentTrigger_vlv : (urgentTrigger s).vlv = s.vlv := by
  simp [urgentTrigger]
@[simp] theorem urgentTrigger_cap : (urgentTrigger s).cap = s.cap := by
  simp [urgentTrigger]
@[simp] theorem urgentTrigger_svc : (urgentTrigger s).svc = s.svc := by
  simp [urgentTrigger]
@[simp] theorem urgentTrigger_clk : (urgentTrigger s).clk = s.clk := by
  simp [urgentTrigger]
@[simp] theorem urgentTrigger_pending : (urgentTrigger s).pending = s.pending := by
  simp [urgentTrigger]

@[simp] theorem startScanTimer_sup : (startScanTimer s).sup = s.sup := by
  simp [startScanTimer]
@[simp] theorem startScanTimer_rli : (startScanTimer s).rli = s.rli := by
  simp [startScanTimer]
@[simp] theorem startScanTimer_lnk : (startScanTimer s).lnk = s.lnk := by
  simp [startScanTimer]
@[simp] theorem startScanTimer_ros : (startScanTimer s).ros = s.ros := by
  simp [startScanTimer]
@[simp] theorem startScanTimer_msu : (startScanTimer s).msu = s.msu := by
  simp [startScanTimer]
@[simp] theorem startScanTimer_wch : (startScanTimer s).wch = s.wch := by
  simp [startScanTimer]
@[simp] theorem startScanTimer_shr : (startScanTimer s).shr = s.shr := by
  simp [startScanTimer]
@[simp] theorem startScanTimer_vlv : (startScanTimer s).vlv = s.vlv := by
  simp [startScanTimer]
@[simp] theorem startScanTimer_cap : (startScanTimer s).cap = s.cap := by
  simp [startScanTimer]
@[simp] theorem startScanTimer_svc : (startScanTimer s).svc = s.svc := by
  simp [startScanTimer]
@[simp] theorem startScanTimer_clk : (startScanTimer s).clk = s.clk := by
  simp [startScanTimer]
@[simp] theorem startScanTimer_pending : (startScanTimer s).pending = s.pending := by
  simp [startScanTimer]

@[simp] theorem timerTrigger_sup : (timerTrigger s).sup = s.sup := by
  simp [timerTrigger]
@[simp] theorem timerTrigger_rli : (timerTrigger s).rli = s.rli := by
  simp [timerTrigger]
@[simp] theorem timerTrigger_lnk : (timerTrigger s).lnk = s.lnk := by
  simp [timerTrigger]
@[simp] theorem timerTrigger_ros : (timerTrigger s).ros = s.ros := by
  simp [timerTrigger]
@[simp] theorem timerTrigger_msu : (timerTrigger s).msu = s.msu := by
  simp [timerTrigger]
@[simp] theorem timerTrigger_wch : (timerTrigger s).wch = s.wch := by
  simp [timerTrigger]
@[simp] theorem timerTrigger_shr : (timerTrigger s).shr = s.shr := by
  simp [timerTrigger]
@[simp] theorem timerTrigger_vlv : (timerTrigger s).vlv = s.vlv := by
  simp [timerTrigger]
@[simp] theorem timerTrigger_cap : (timerTrigger s).cap = s.cap := by
  simp [timerTrigger]
@[simp] theorem timerTrigger_svc : (timerTrigger s).svc = s.svc := by
  simp [timerTrigger]
@[simp] theorem timerTrigger_clk : (timerTrigger s).clk = s.clk := by
  simp [timerTrigger]
@[simp] theorem timerTrigger_pending : (timerTrigger s).pending = s.pending := by
  simp [timerTrigger]

@[simp] theorem abortScan_rli : (abortScan s).rli = s.rli := by
  simp [abortScan]
@[simp] theorem abortScan_lnk : (abortScan s).lnk = s.lnk := by
  simp [abortScan]
@[simp] theorem abortScan_ros : (abortScan s).ros = s.ros := by
  simp [abortScan]
@[simp] theorem abortScan_msu : (abortScan s).msu = s.msu := by
  simp [abortScan]
@[simp] theorem abortScan_wch : (abortScan s).wch = s.wch := by
  simp [abortScan]
@[simp] theorem abortScan_shr : (abortScan s).shr = s.shr := by
  simp [abortScan]
@[simp] theorem abortScan_vlv : (abortScan s).vlv = s.vlv := by
  simp [abortScan]
@[simp] theorem abortScan_cap : (abortScan s).cap = s.cap := by
  simp [abortScan]
@[simp] theorem abortScan_svc : (abortScan s).svc = s.svc := by
  simp [abortScan]
@[simp] theorem abortScan_clk : (abortScan s).clk = s.clk := by
  simp [abortScan]
@[simp] theorem abortScan_pending : (abortScan s).pending = s.pending := by
  simp [abortScan]

@[simp] theorem dripPeerDrip_sup : (dripPeerDrip s).sup = s.sup := by
  unfold dripPeerDrip; split <;> simp
@[simp] theorem dripPeerDrip_rli : (dripPeerDrip s).rli = s.rli := by
  unfold dripPeerDrip; split <;> simp
@[simp] theorem dripPeerDrip_lnk : (dripPeerDrip s).lnk = s.lnk := by
  unfold dripPeerDrip; split <;> simp
@[simp] theorem dripPeerDrip_ros : (dripPeerDrip s).ros = s.ros := by
  unfold dripPeerDrip; split <;> simp
@[simp] theorem dripPeerDrip_msu : (dripPeerDrip s).msu = s.msu := by
  unfold dripPeerDrip; split <;> simp
@[simp] theorem dripPeerDrip_wch : (dripPeerDrip s).wch = s.wch := by
  unfold dripPeerDrip; split <;> simp
@[simp] theorem dripPeerDrip_shr : (dripPeerDrip s).shr = s.shr := by
  unfold dripPeerDrip; split <;> simp
@[simp] theorem dripPeerDrip_vlv : (dripPeerDrip s).vlv = s.vlv := by
  unfold dripPeerDrip; split <;> simp
@[simp] theorem dripPeerDrip_cap : (dripPeerDrip s).cap = s.cap := by
  unfold dripPeerDrip; split <;> simp
@[simp] theorem dripPeerDrip_svc : (dripPeerDrip s).svc = s.svc := by
  unfold dripPeerDrip; split <;> simp
@[simp] theorem dripPeerDrip_clk : (dripPeerDrip s).clk = s.clk := by
  unfold dripPeerDrip; split <;> simp
@[simp] theorem dripPeerDrip_pending : (dripPeerDrip s).pending = s.pending := by
  unfold dripPeerDrip; split <;> simp

@[simp] theorem endScan_sup : (endScan s).sup = s.sup := by
  simp only [endScan]; split <;> simp
@[simp] theorem endScan_rli : (endScan s).rli = s.rli := by
  simp only [endScan]; split <;> simp
@[simp] theorem endScan_lnk : (endScan s).lnk = s.lnk := by
  simp only [endScan]; split <;> simp
@[simp] theorem endScan_ros : (endScan s).ros = s.ros := by
  simp only [endScan]; split <;> simp
@[simp] theorem endScan_msu : (endScan s).msu = s.msu := by
  simp only [endScan]; split <;> simp
@[simp] theorem endScan_wch : (endScan s).wch = s.wch := by
  simp only [endScan]; split <;> simp
@[simp] theorem endScan_shr : (endScan s).shr = s.shr := by
  simp only [endScan]; split <;> simp
@[simp] theorem endScan_vlv : (endScan s).vlv = s.vlv := by
  simp only [endScan]; split <;> simp
@[simp] theorem endScan_cap : (endScan s).cap = s.cap := by
  simp only [endScan]; split <;> simp
@[simp] theorem endScan_svc : (endScan s).svc = s.svc := by
  simp only [endScan]; split <;> simp
@[simp] theorem endScan_clk : (endScan s).clk = s.clk := by
  simp only [endScan]; split <;> simp
@[simp] theorem endScan_pending : (endScan s).pending = s.pending := by
  simp only [endScan]; split <;> simp

/-! ## Mode -/

@[simp] theorem announceOnEntry_sup (o m : Mode) : (announceOnEntry o m s).sup = s.sup := by
  simp [announceOnEntry]
@[simp] theorem announceOnEntry_rli (o m : Mode) : (announceOnEntry o m s).rli = s.rli := by
  simp [announceOnEntry]
@[simp] theorem announceOnEntry_ros (o m : Mode) : (announceOnEntry o m s).ros = s.ros := by
  simp [announceOnEntry]
@[simp] theorem announceOnEntry_dsu (o m : Mode) : (announceOnEntry o m s).dsu = s.dsu := by
  simp [announceOnEntry]
@[simp] theorem announceOnEntry_msu (o m : Mode) : (announceOnEntry o m s).msu = s.msu := by
  simp [announceOnEntry]
@[simp] theorem announceOnEntry_wch (o m : Mode) : (announceOnEntry o m s).wch = s.wch := by
  simp [announceOnEntry]
@[simp] theorem announceOnEntry_shr (o m : Mode) : (announceOnEntry o m s).shr = s.shr := by
  simp [announceOnEntry]
@[simp] theorem announceOnEntry_vlv (o m : Mode) : (announceOnEntry o m s).vlv = s.vlv := by
  simp [announceOnEntry]
@[simp] theorem announceOnEntry_cap (o m : Mode) : (announceOnEntry o m s).cap = s.cap := by
  simp [announceOnEntry]
@[simp] theorem announceOnEntry_svc (o m : Mode) : (announceOnEntry o m s).svc = s.svc := by
  simp [announceOnEntry]
@[simp] theorem announceOnEntry_clk (o m : Mode) : (announceOnEntry o m s).clk = s.clk := by
  simp [announceOnEntry]
@[simp] theorem announceOnEntry_pending (o m : Mode) : (announceOnEntry o m s).pending = s.pending := by
  simp [announceOnEntry]

@[simp] theorem scanTimerOnEntry_sup (m : Mode) : (scanTimerOnEntry m s).sup = s.sup := by
  unfold scanTimerOnEntry; split <;> simp
@[simp] theorem scanTimerOnEntry_rli (m : Mode) : (scanTimerOnEntry m s).rli = s.rli := by
  unfold scanTimerOnEntry; split <;> simp
@[simp] theorem scanTimerOnEntry_lnk (m : Mode) : (scanTimerOnEntry m s).lnk = s.lnk := by
  unfold scanTimerOnEntry; split <;> simp
@[simp] theorem scanTimerOnEntry_ros (m : Mode) : (scanTimerOnEntry m s).ros = s.ros := by
  unfold scanTimerOnEntry; split <;> simp
@[simp] theorem scanTimerOnEntry_msu (m : Mode) : (scanTimerOnEntry m s).msu = s.msu := by
  unfold scanTimerOnEntry; split <;> simp
@[simp] theorem scanTimerOnEntry_wch (m : Mode) : (scanTimerOnEntry m s).wch = s.wch := by
  unfold scanTimerOnEntry; split <;> simp
@[simp] theorem scanTimerOnEntry_shr (m : Mode) : (scanTimerOnEntry m s).shr = s.shr := by
  unfold scanTimerOnEntry; split <;> simp
@[simp] theorem scanTimerOnEntry_vlv (m : Mode) : (scanTimerOnEntry m s).vlv = s.vlv := by
  unfold scanTimerOnEntry; split <;> simp
@[simp] theorem scanTimerOnEntry_cap (m : Mode) : (scanTimerOnEntry m s).cap = s.cap := by
  unfold scanTimerOnEntry; split <;> simp
@[simp] theorem scanTimerOnEntry_svc (m : Mode) : (scanTimerOnEntry m s).svc = s.svc := by
  unfold scanTimerOnEntry; split <;> simp
@[simp] theorem scanTimerOnEntry_clk (m : Mode) : (scanTimerOnEntry m s).clk = s.clk := by
  unfold scanTimerOnEntry; split <;> simp
@[simp] theorem scanTimerOnEntry_pending (m : Mode) : (scanTimerOnEntry m s).pending = s.pending := by
  unfold scanTimerOnEntry; split <;> simp

@[simp] theorem changeMode_rli (m : Mode) : (changeMode m s).rli = s.rli := by
  simp only [changeMode]; split <;> simp
@[simp] theorem changeMode_ros (m : Mode) : (changeMode m s).ros = s.ros := by
  simp only [changeMode]; split <;> simp
@[simp] theorem changeMode_msu (m : Mode) : (changeMode m s).msu = s.msu := by
  simp only [changeMode]; split <;> simp
@[simp] theorem changeMode_wch (m : Mode) : (changeMode m s).wch = s.wch := by
  simp only [changeMode]; split <;> simp
@[simp] theorem changeMode_shr (m : Mode) : (changeMode m s).shr = s.shr := by
  simp only [changeMode]; split <;> simp
@[simp] theorem changeMode_vlv (m : Mode) : (changeMode m s).vlv = s.vlv := by
  simp only [changeMode]; split <;> simp
@[simp] theorem changeMode_svc (m : Mode) : (changeMode m s).svc = s.svc := by
  simp only [changeMode]; split <;> simp
@[simp] theorem changeMode_clk (m : Mode) : (changeMode m s).clk = s.clk := by
  simp only [changeMode]; split <;> simp
@[simp] theorem changeMode_pending (m : Mode) : (changeMode m s).pending = s.pending := by
  simp only [changeMode]; split <;> simp
@[simp] theorem changeMode_cfg (m : Mode) : (changeMode m s).sup.cfg = s.sup.cfg := by
  simp only [changeMode]; split <;> simp
@[simp] theorem changeMode_ownAddr (m : Mode) : (changeMode m s).sup.ownAddr = s.sup.ownAddr := by
  simp only [changeMode]; split <;> simp
@[simp] theorem changeMode_ownSeg (m : Mode) : (changeMode m s).sup.ownSeg = s.sup.ownSeg := by
  simp only [changeMode]; split <;> simp
@[simp] theorem changeMode_loading (m : Mode) : (changeMode m s).sup.loading = s.sup.loading := by
  simp only [changeMode]; split <;> simp

@[simp] theorem evalContainment_rli : (evalContainment s).rli = s.rli := by
  unfold evalContainment; (repeat' split) <;> simp
@[simp] theorem evalContainment_ros : (evalContainment s).ros = s.ros := by
  unfold evalContainment; (repeat' split) <;> simp
@[simp] theorem evalContainment_msu : (evalContainment s).msu = s.msu := by
  unfold evalContainment; (repeat' split) <;> simp
@[simp] theorem evalContainment_wch : (evalContainment s).wch = s.wch := by
  unfold evalContainment; (repeat' split) <;> simp
@[simp] theorem evalContainment_shr : (evalContainment s).shr = s.shr := by
  unfold evalContainment; (repeat' split) <;> simp
@[simp] theorem evalContainment_vlv : (evalContainment s).vlv = s.vlv := by
  unfold evalContainment; (repeat' split) <;> simp
@[simp] theorem evalContainment_svc : (evalContainment s).svc = s.svc := by
  unfold evalContainment; (repeat' split) <;> simp
@[simp] theorem evalContainment_clk : (evalContainment s).clk = s.clk := by
  unfold evalContainment; (repeat' split) <;> simp
@[simp] theorem evalContainment_pending : (evalContainment s).pending = s.pending := by
  unfold evalContainment; (repeat' split) <;> simp
@[simp] theorem evalContainment_cfg : (evalContainment s).sup.cfg = s.sup.cfg := by
  unfold evalContainment; (repeat' split) <;> simp
@[simp] theorem evalContainment_ownAddr : (evalContainment s).sup.ownAddr = s.sup.ownAddr := by
  unfold evalContainment; (repeat' split) <;> simp
@[simp] theorem evalContainment_ownSeg : (evalContainment s).sup.ownSeg = s.sup.ownSeg := by
  unfold evalContainment; (repeat' split) <;> simp
@[simp] theorem evalContainment_loading : (evalContainment s).sup.loading = s.sup.loading := by
  unfold evalContainment; (repeat' split) <;> simp

@[simp] theorem goActive_rli : (goActive s).rli = s.rli := by
  simp [goActive]
@[simp] theorem goActive_ros : (goActive s).ros = s.ros := by
  simp [goActive]
@[simp] theorem goActive_msu : (goActive s).msu = s.msu := by
  simp [goActive]
@[simp] theorem goActive_wch : (goActive s).wch = s.wch := by
  simp [goActive]
@[simp] theorem goActive_shr : (goActive s).shr = s.shr := by
  simp [goActive]
@[simp] theorem goActive_vlv : (goActive s).vlv = s.vlv := by
  simp [goActive]
@[simp] theorem goActive_svc : (goActive s).svc = s.svc := by
  simp [goActive]
@[simp] theorem goActive_clk : (goActive s).clk = s.clk := by
  simp [goActive]
@[simp] theorem goActive_pending : (goActive s).pending = s.pending := by
  simp [goActive]
@[simp] theorem goActive_cfg : (goActive s).sup.cfg = s.sup.cfg := by
  simp [goActive]
@[simp] theorem goActive_ownAddr : (goActive s).sup.ownAddr = s.sup.ownAddr := by
  simp [goActive]
@[simp] theorem goActive_ownSeg : (goActive s).sup.ownSeg = s.sup.ownSeg := by
  simp [goActive]
@[simp] theorem goActive_loading : (goActive s).sup.loading = s.sup.loading := by
  simp [goActive]

@[simp] theorem enterIsolated_rli : (enterIsolated s).rli = s.rli := by
  simp [enterIsolated]
@[simp] theorem enterIsolated_ros : (enterIsolated s).ros = s.ros := by
  simp [enterIsolated]
@[simp] theorem enterIsolated_msu : (enterIsolated s).msu = s.msu := by
  simp [enterIsolated]
@[simp] theorem enterIsolated_wch : (enterIsolated s).wch = s.wch := by
  simp [enterIsolated]
@[simp] theorem enterIsolated_shr : (enterIsolated s).shr = s.shr := by
  simp [enterIsolated]
@[simp] theorem enterIsolated_svc : (enterIsolated s).svc = s.svc := by
  simp [enterIsolated]
@[simp] theorem enterIsolated_clk : (enterIsolated s).clk = s.clk := by
  simp [enterIsolated]
@[simp] theorem enterIsolated_pending : (enterIsolated s).pending = s.pending := by
  simp [enterIsolated]
@[simp] theorem enterIsolated_cfg : (enterIsolated s).sup.cfg = s.sup.cfg := by
  simp [enterIsolated]
@[simp] theorem enterIsolated_ownAddr : (enterIsolated s).sup.ownAddr = s.sup.ownAddr := by
  simp [enterIsolated]
@[simp] theorem enterIsolated_ownSeg : (enterIsolated s).sup.ownSeg = s.sup.ownSeg := by
  simp [enterIsolated]
@[simp] theorem enterIsolated_loading : (enterIsolated s).sup.loading = s.sup.loading := by
  simp [enterIsolated]

@[simp] theorem failJoin_rli : (failJoin s).rli = s.rli := by
  simp [failJoin]
@[simp] theorem failJoin_lnk : (failJoin s).lnk = s.lnk := by
  simp [failJoin]
@[simp] theorem failJoin_ros : (failJoin s).ros = s.ros := by
  simp [failJoin]
@[simp] theorem failJoin_dsu : (failJoin s).dsu = s.dsu := by
  simp [failJoin]
@[simp] theorem failJoin_msu : (failJoin s).msu = s.msu := by
  simp [failJoin]
@[simp] theorem failJoin_wch : (failJoin s).wch = s.wch := by
  simp [failJoin]
@[simp] theorem failJoin_shr : (failJoin s).shr = s.shr := by
  simp [failJoin]
@[simp] theorem failJoin_vlv : (failJoin s).vlv = s.vlv := by
  simp [failJoin]
@[simp] theorem failJoin_cap : (failJoin s).cap = s.cap := by
  simp [failJoin]
@[simp] theorem failJoin_svc : (failJoin s).svc = s.svc := by
  simp [failJoin]
@[simp] theorem failJoin_clk : (failJoin s).clk = s.clk := by
  simp [failJoin]
@[simp] theorem failJoin_pending : (failJoin s).pending = s.pending := by
  simp [failJoin]
@[simp] theorem failJoin_cfg : (failJoin s).sup.cfg = s.sup.cfg := by
  simp [failJoin]
@[simp] theorem failJoin_ownAddr : (failJoin s).sup.ownAddr = s.sup.ownAddr := by
  simp [failJoin]
@[simp] theorem failJoin_ownSeg : (failJoin s).sup.ownSeg = s.sup.ownSeg := by
  simp [failJoin]
@[simp] theorem failJoin_loading : (failJoin s).sup.loading = s.sup.loading := by
  simp [failJoin]
@[simp] theorem failJoin_mode : (failJoin s).sup.mode = s.sup.mode := by
  simp [failJoin]

@[simp] theorem isolateAction_rli : (isolateAction s).rli = s.rli := by
  unfold isolateAction; split <;> simp
@[simp] theorem isolateAction_ros : (isolateAction s).ros = s.ros := by
  unfold isolateAction; split <;> simp
@[simp] theorem isolateAction_msu : (isolateAction s).msu = s.msu := by
  unfold isolateAction; split <;> simp
@[simp] theorem isolateAction_wch : (isolateAction s).wch = s.wch := by
  unfold isolateAction; split <;> simp
@[simp] theorem isolateAction_shr : (isolateAction s).shr = s.shr := by
  unfold isolateAction; split <;> simp
@[simp] theorem isolateAction_svc : (isolateAction s).svc = s.svc := by
  unfold isolateAction; split <;> simp
@[simp] theorem isolateAction_clk : (isolateAction s).clk = s.clk := by
  unfold isolateAction; split <;> simp
@[simp] theorem isolateAction_pending : (isolateAction s).pending = s.pending := by
  unfold isolateAction; split <;> simp
@[simp] theorem isolateAction_cfg : (isolateAction s).sup.cfg = s.sup.cfg := by
  unfold isolateAction; split <;> simp
@[simp] theorem isolateAction_ownAddr : (isolateAction s).sup.ownAddr = s.sup.ownAddr := by
  unfold isolateAction; split <;> simp
@[simp] theorem isolateAction_ownSeg : (isolateAction s).sup.ownSeg = s.sup.ownSeg := by
  unfold isolateAction; split <;> simp
@[simp] theorem isolateAction_loading : (isolateAction s).sup.loading = s.sup.loading := by
  unfold isolateAction; split <;> simp

@[simp] theorem enterJoining_rli : (enterJoining s).rli = s.rli := by
  simp [enterJoining]
@[simp] theorem enterJoining_ros : (enterJoining s).ros = s.ros := by
  simp [enterJoining]
@[simp] theorem enterJoining_msu : (enterJoining s).msu = s.msu := by
  simp [enterJoining]
@[simp] theorem enterJoining_wch : (enterJoining s).wch = s.wch := by
  simp [enterJoining]
@[simp] theorem enterJoining_shr : (enterJoining s).shr = s.shr := by
  simp [enterJoining]
@[simp] theorem enterJoining_svc : (enterJoining s).svc = s.svc := by
  simp [enterJoining]
@[simp] theorem enterJoining_clk : (enterJoining s).clk = s.clk := by
  simp [enterJoining]
@[simp] theorem enterJoining_pending : (enterJoining s).pending = s.pending := by
  simp [enterJoining]
@[simp] theorem enterJoining_cfg : (enterJoining s).sup.cfg = s.sup.cfg := by
  simp [enterJoining]
@[simp] theorem enterJoining_ownAddr : (enterJoining s).sup.ownAddr = s.sup.ownAddr := by
  simp [enterJoining]
@[simp] theorem enterJoining_ownSeg : (enterJoining s).sup.ownSeg = s.sup.ownSeg := by
  simp [enterJoining]
@[simp] theorem enterJoining_loading : (enterJoining s).sup.loading = s.sup.loading := by
  simp [enterJoining]

@[simp] theorem passDryCheck_rli : (passDryCheck s).rli = s.rli := by
  simp only [passDryCheck]; split <;> simp
@[simp] theorem passDryCheck_ros : (passDryCheck s).ros = s.ros := by
  simp only [passDryCheck]; split <;> simp
@[simp] theorem passDryCheck_msu : (passDryCheck s).msu = s.msu := by
  simp only [passDryCheck]; split <;> simp
@[simp] theorem passDryCheck_wch : (passDryCheck s).wch = s.wch := by
  simp only [passDryCheck]; split <;> simp
@[simp] theorem passDryCheck_shr : (passDryCheck s).shr = s.shr := by
  simp only [passDryCheck]; split <;> simp
@[simp] theorem passDryCheck_svc : (passDryCheck s).svc = s.svc := by
  simp only [passDryCheck]; split <;> simp
@[simp] theorem passDryCheck_clk : (passDryCheck s).clk = s.clk := by
  simp only [passDryCheck]; split <;> simp
@[simp] theorem passDryCheck_pending : (passDryCheck s).pending = s.pending := by
  simp only [passDryCheck]; split <;> simp
@[simp] theorem passDryCheck_cfg : (passDryCheck s).sup.cfg = s.sup.cfg := by
  simp only [passDryCheck]; split <;> simp
@[simp] theorem passDryCheck_ownAddr : (passDryCheck s).sup.ownAddr = s.sup.ownAddr := by
  simp only [passDryCheck]; split <;> simp
@[simp] theorem passDryCheck_ownSeg : (passDryCheck s).sup.ownSeg = s.sup.ownSeg := by
  simp only [passDryCheck]; split <;> simp
@[simp] theorem passDryCheck_loading : (passDryCheck s).sup.loading = s.sup.loading := by
  simp only [passDryCheck]; split <;> simp

/-! ## Watch engine -/

@[simp] theorem mapUnit_sup (u : Fin 8) (f : WatchUnit → WatchUnit) : (mapUnit u f s).sup = s.sup := by
  simp [mapUnit]
@[simp] theorem mapUnit_rli (u : Fin 8) (f : WatchUnit → WatchUnit) : (mapUnit u f s).rli = s.rli := by
  simp [mapUnit]
@[simp] theorem mapUnit_lnk (u : Fin 8) (f : WatchUnit → WatchUnit) : (mapUnit u f s).lnk = s.lnk := by
  simp [mapUnit]
@[simp] theorem mapUnit_ros (u : Fin 8) (f : WatchUnit → WatchUnit) : (mapUnit u f s).ros = s.ros := by
  simp [mapUnit]
@[simp] theorem mapUnit_dsu (u : Fin 8) (f : WatchUnit → WatchUnit) : (mapUnit u f s).dsu = s.dsu := by
  simp [mapUnit]
@[simp] theorem mapUnit_msu (u : Fin 8) (f : WatchUnit → WatchUnit) : (mapUnit u f s).msu = s.msu := by
  simp [mapUnit]
@[simp] theorem mapUnit_shr (u : Fin 8) (f : WatchUnit → WatchUnit) : (mapUnit u f s).shr = s.shr := by
  simp [mapUnit]
@[simp] theorem mapUnit_vlv (u : Fin 8) (f : WatchUnit → WatchUnit) : (mapUnit u f s).vlv = s.vlv := by
  simp [mapUnit]
@[simp] theorem mapUnit_cap (u : Fin 8) (f : WatchUnit → WatchUnit) : (mapUnit u f s).cap = s.cap := by
  simp [mapUnit]
@[simp] theorem mapUnit_svc (u : Fin 8) (f : WatchUnit → WatchUnit) : (mapUnit u f s).svc = s.svc := by
  simp [mapUnit]
@[simp] theorem mapUnit_clk (u : Fin 8) (f : WatchUnit → WatchUnit) : (mapUnit u f s).clk = s.clk := by
  simp [mapUnit]
@[simp] theorem mapUnit_pending (u : Fin 8) (f : WatchUnit → WatchUnit) : (mapUnit u f s).pending = s.pending := by
  simp [mapUnit]

@[simp] theorem armDependants_sup (e : Arming) : (armDependants e s).sup = s.sup := by
  unfold armDependants; generalize allUnits = l; refine foldl_keeps (fun t => t.sup) _ (fun t u => ?_) _ s; split <;> simp
@[simp] theorem armDependants_rli (e : Arming) : (armDependants e s).rli = s.rli := by
  unfold armDependants; generalize allUnits = l; refine foldl_keeps (fun t => t.rli) _ (fun t u => ?_) _ s; split <;> simp
@[simp] theorem armDependants_lnk (e : Arming) : (armDependants e s).lnk = s.lnk := by
  unfold armDependants; generalize allUnits = l; refine foldl_keeps (fun t => t.lnk) _ (fun t u => ?_) _ s; split <;> simp
@[simp] theorem armDependants_ros (e : Arming) : (armDependants e s).ros = s.ros := by
  unfold armDependants; generalize allUnits = l; refine foldl_keeps (fun t => t.ros) _ (fun t u => ?_) _ s; split <;> simp
@[simp] theorem armDependants_dsu (e : Arming) : (armDependants e s).dsu = s.dsu := by
  unfold armDependants; generalize allUnits = l; refine foldl_keeps (fun t => t.dsu) _ (fun t u => ?_) _ s; split <;> simp
@[simp] theorem armDependants_msu (e : Arming) : (armDependants e s).msu = s.msu := by
  unfold armDependants; generalize allUnits = l; refine foldl_keeps (fun t => t.msu) _ (fun t u => ?_) _ s; split <;> simp
@[simp] theorem armDependants_shr (e : Arming) : (armDependants e s).shr = s.shr := by
  unfold armDependants; generalize allUnits = l; refine foldl_keeps (fun t => t.shr) _ (fun t u => ?_) _ s; split <;> simp
@[simp] theorem armDependants_vlv (e : Arming) : (armDependants e s).vlv = s.vlv := by
  unfold armDependants; generalize allUnits = l; refine foldl_keeps (fun t => t.vlv) _ (fun t u => ?_) _ s; split <;> simp
@[simp] theorem armDependants_cap (e : Arming) : (armDependants e s).cap = s.cap := by
  unfold armDependants; generalize allUnits = l; refine foldl_keeps (fun t => t.cap) _ (fun t u => ?_) _ s; split <;> simp
@[simp] theorem armDependants_svc (e : Arming) : (armDependants e s).svc = s.svc := by
  unfold armDependants; generalize allUnits = l; refine foldl_keeps (fun t => t.svc) _ (fun t u => ?_) _ s; split <;> simp
@[simp] theorem armDependants_clk (e : Arming) : (armDependants e s).clk = s.clk := by
  unfold armDependants; generalize allUnits = l; refine foldl_keeps (fun t => t.clk) _ (fun t u => ?_) _ s; split <;> simp
@[simp] theorem armDependants_pending (e : Arming) : (armDependants e s).pending = s.pending := by
  unfold armDependants; generalize allUnits = l; refine foldl_keeps (fun t => t.pending) _ (fun t u => ?_) _ s; split <;> simp

@[simp] theorem markFired_rli (u : Fin 8) : (markFired u s).rli = s.rli := by
  simp [markFired]
@[simp] theorem markFired_lnk (u : Fin 8) : (markFired u s).lnk = s.lnk := by
  simp [markFired]
@[simp] theorem markFired_ros (u : Fin 8) : (markFired u s).ros = s.ros := by
  simp [markFired]
@[simp] theorem markFired_dsu (u : Fin 8) : (markFired u s).dsu = s.dsu := by
  simp [markFired]
@[simp] theorem markFired_msu (u : Fin 8) : (markFired u s).msu = s.msu := by
  simp [markFired]
@[simp] theorem markFired_shr (u : Fin 8) : (markFired u s).shr = s.shr := by
  simp [markFired]
@[simp] theorem markFired_vlv (u : Fin 8) : (markFired u s).vlv = s.vlv := by
  simp [markFired]
@[simp] theorem markFired_svc (u : Fin 8) : (markFired u s).svc = s.svc := by
  simp [markFired]
@[simp] theorem markFired_clk (u : Fin 8) : (markFired u s).clk = s.clk := by
  simp [markFired]
@[simp] theorem markFired_pending (u : Fin 8) : (markFired u s).pending = s.pending := by
  simp [markFired]
@[simp] theorem markFired_cfg (u : Fin 8) : (markFired u s).sup.cfg = s.sup.cfg := by
  simp [markFired]
@[simp] theorem markFired_ownAddr (u : Fin 8) : (markFired u s).sup.ownAddr = s.sup.ownAddr := by
  simp [markFired]
@[simp] theorem markFired_ownSeg (u : Fin 8) : (markFired u s).sup.ownSeg = s.sup.ownSeg := by
  simp [markFired]
@[simp] theorem markFired_loading (u : Fin 8) : (markFired u s).sup.loading = s.sup.loading := by
  simp [markFired]
@[simp] theorem markFired_mode (u : Fin 8) : (markFired u s).sup.mode = s.sup.mode := by
  simp [markFired]

@[simp] theorem runAction_rli (u : Fin 8) : (runAction u s).rli = s.rli := by
  unfold runAction; (repeat' split) <;> simp
@[simp] theorem runAction_ros (u : Fin 8) : (runAction u s).ros = s.ros := by
  unfold runAction; (repeat' split) <;> simp
@[simp] theorem runAction_msu (u : Fin 8) : (runAction u s).msu = s.msu := by
  unfold runAction; (repeat' split) <;> simp
@[simp] theorem runAction_wch (u : Fin 8) : (runAction u s).wch = s.wch := by
  unfold runAction; (repeat' split) <;> simp
@[simp] theorem runAction_shr (u : Fin 8) : (runAction u s).shr = s.shr := by
  unfold runAction; (repeat' split) <;> simp
@[simp] theorem runAction_svc (u : Fin 8) : (runAction u s).svc = s.svc := by
  unfold runAction; (repeat' split) <;> simp
@[simp] theorem runAction_clk (u : Fin 8) : (runAction u s).clk = s.clk := by
  unfold runAction; (repeat' split) <;> simp
@[simp] theorem runAction_pending (u : Fin 8) : (runAction u s).pending = s.pending := by
  unfold runAction; (repeat' split) <;> simp
@[simp] theorem runAction_cfg (u : Fin 8) : (runAction u s).sup.cfg = s.sup.cfg := by
  unfold runAction; (repeat' split) <;> simp
@[simp] theorem runAction_ownAddr (u : Fin 8) : (runAction u s).sup.ownAddr = s.sup.ownAddr := by
  unfold runAction; (repeat' split) <;> simp
@[simp] theorem runAction_ownSeg (u : Fin 8) : (runAction u s).sup.ownSeg = s.sup.ownSeg := by
  unfold runAction; (repeat' split) <;> simp
@[simp] theorem runAction_loading (u : Fin 8) : (runAction u s).sup.loading = s.sup.loading := by
  unfold runAction; (repeat' split) <;> simp

@[simp] theorem fireUnit_rli (u : Fin 8) : (fireUnit u s).rli = s.rli := by
  simp [fireUnit]
@[simp] theorem fireUnit_ros (u : Fin 8) : (fireUnit u s).ros = s.ros := by
  simp [fireUnit]
@[simp] theorem fireUnit_msu (u : Fin 8) : (fireUnit u s).msu = s.msu := by
  simp [fireUnit]
@[simp] theorem fireUnit_shr (u : Fin 8) : (fireUnit u s).shr = s.shr := by
  simp [fireUnit]
@[simp] theorem fireUnit_svc (u : Fin 8) : (fireUnit u s).svc = s.svc := by
  simp [fireUnit]
@[simp] theorem fireUnit_clk (u : Fin 8) : (fireUnit u s).clk = s.clk := by
  simp [fireUnit]
@[simp] theorem fireUnit_pending (u : Fin 8) : (fireUnit u s).pending = s.pending := by
  simp [fireUnit]
@[simp] theorem fireUnit_cfg (u : Fin 8) : (fireUnit u s).sup.cfg = s.sup.cfg := by
  simp [fireUnit]
@[simp] theorem fireUnit_ownAddr (u : Fin 8) : (fireUnit u s).sup.ownAddr = s.sup.ownAddr := by
  simp [fireUnit]
@[simp] theorem fireUnit_ownSeg (u : Fin 8) : (fireUnit u s).sup.ownSeg = s.sup.ownSeg := by
  simp [fireUnit]
@[simp] theorem fireUnit_loading (u : Fin 8) : (fireUnit u s).sup.loading = s.sup.loading := by
  simp [fireUnit]

@[simp] theorem fireInDryCheck_rli (u : Fin 8) : (fireInDryCheck u s).rli = s.rli := by
  simp [fireInDryCheck]
@[simp] theorem fireInDryCheck_lnk (u : Fin 8) : (fireInDryCheck u s).lnk = s.lnk := by
  simp [fireInDryCheck]
@[simp] theorem fireInDryCheck_ros (u : Fin 8) : (fireInDryCheck u s).ros = s.ros := by
  simp [fireInDryCheck]
@[simp] theorem fireInDryCheck_dsu (u : Fin 8) : (fireInDryCheck u s).dsu = s.dsu := by
  simp [fireInDryCheck]
@[simp] theorem fireInDryCheck_msu (u : Fin 8) : (fireInDryCheck u s).msu = s.msu := by
  simp [fireInDryCheck]
@[simp] theorem fireInDryCheck_shr (u : Fin 8) : (fireInDryCheck u s).shr = s.shr := by
  simp [fireInDryCheck]
@[simp] theorem fireInDryCheck_vlv (u : Fin 8) : (fireInDryCheck u s).vlv = s.vlv := by
  simp [fireInDryCheck]
@[simp] theorem fireInDryCheck_svc (u : Fin 8) : (fireInDryCheck u s).svc = s.svc := by
  simp [fireInDryCheck]
@[simp] theorem fireInDryCheck_clk (u : Fin 8) : (fireInDryCheck u s).clk = s.clk := by
  simp [fireInDryCheck]
@[simp] theorem fireInDryCheck_pending (u : Fin 8) : (fireInDryCheck u s).pending = s.pending := by
  simp [fireInDryCheck]
@[simp] theorem fireInDryCheck_cfg (u : Fin 8) : (fireInDryCheck u s).sup.cfg = s.sup.cfg := by
  simp [fireInDryCheck]
@[simp] theorem fireInDryCheck_ownAddr (u : Fin 8) : (fireInDryCheck u s).sup.ownAddr = s.sup.ownAddr := by
  simp [fireInDryCheck]
@[simp] theorem fireInDryCheck_ownSeg (u : Fin 8) : (fireInDryCheck u s).sup.ownSeg = s.sup.ownSeg := by
  simp [fireInDryCheck]
@[simp] theorem fireInDryCheck_loading (u : Fin 8) : (fireInDryCheck u s).sup.loading = s.sup.loading := by
  simp [fireInDryCheck]
@[simp] theorem fireInDryCheck_mode (u : Fin 8) : (fireInDryCheck u s).sup.mode = s.sup.mode := by
  simp [fireInDryCheck]

@[simp] theorem leaveFired_rli (u : Fin 8) : (leaveFired u s).rli = s.rli := by
  simp [leaveFired]
@[simp] theorem leaveFired_lnk (u : Fin 8) : (leaveFired u s).lnk = s.lnk := by
  simp [leaveFired]
@[simp] theorem leaveFired_ros (u : Fin 8) : (leaveFired u s).ros = s.ros := by
  simp [leaveFired]
@[simp] theorem leaveFired_dsu (u : Fin 8) : (leaveFired u s).dsu = s.dsu := by
  simp [leaveFired]
@[simp] theorem leaveFired_msu (u : Fin 8) : (leaveFired u s).msu = s.msu := by
  simp [leaveFired]
@[simp] theorem leaveFired_shr (u : Fin 8) : (leaveFired u s).shr = s.shr := by
  simp [leaveFired]
@[simp] theorem leaveFired_vlv (u : Fin 8) : (leaveFired u s).vlv = s.vlv := by
  simp [leaveFired]
@[simp] theorem leaveFired_svc (u : Fin 8) : (leaveFired u s).svc = s.svc := by
  simp [leaveFired]
@[simp] theorem leaveFired_clk (u : Fin 8) : (leaveFired u s).clk = s.clk := by
  simp [leaveFired]
@[simp] theorem leaveFired_pending (u : Fin 8) : (leaveFired u s).pending = s.pending := by
  simp [leaveFired]
@[simp] theorem leaveFired_cfg (u : Fin 8) : (leaveFired u s).sup.cfg = s.sup.cfg := by
  simp [leaveFired]
@[simp] theorem leaveFired_ownAddr (u : Fin 8) : (leaveFired u s).sup.ownAddr = s.sup.ownAddr := by
  simp [leaveFired]
@[simp] theorem leaveFired_ownSeg (u : Fin 8) : (leaveFired u s).sup.ownSeg = s.sup.ownSeg := by
  simp [leaveFired]
@[simp] theorem leaveFired_loading (u : Fin 8) : (leaveFired u s).sup.loading = s.sup.loading := by
  simp [leaveFired]
@[simp] theorem leaveFired_mode (u : Fin 8) : (leaveFired u s).sup.mode = s.sup.mode := by
  simp [leaveFired]

@[simp] theorem countSample_rli (u : Fin 8) (v : Int) : (countSample u v s).rli = s.rli := by
  simp only [countSample]; (repeat' split) <;> simp
@[simp] theorem countSample_ros (u : Fin 8) (v : Int) : (countSample u v s).ros = s.ros := by
  simp only [countSample]; (repeat' split) <;> simp
@[simp] theorem countSample_msu (u : Fin 8) (v : Int) : (countSample u v s).msu = s.msu := by
  simp only [countSample]; (repeat' split) <;> simp
@[simp] theorem countSample_shr (u : Fin 8) (v : Int) : (countSample u v s).shr = s.shr := by
  simp only [countSample]; (repeat' split) <;> simp
@[simp] theorem countSample_svc (u : Fin 8) (v : Int) : (countSample u v s).svc = s.svc := by
  simp only [countSample]; (repeat' split) <;> simp
@[simp] theorem countSample_clk (u : Fin 8) (v : Int) : (countSample u v s).clk = s.clk := by
  simp only [countSample]; (repeat' split) <;> simp
@[simp] theorem countSample_pending (u : Fin 8) (v : Int) : (countSample u v s).pending = s.pending := by
  simp only [countSample]; (repeat' split) <;> simp
@[simp] theorem countSample_cfg (u : Fin 8) (v : Int) : (countSample u v s).sup.cfg = s.sup.cfg := by
  simp only [countSample]; (repeat' split) <;> simp
@[simp] theorem countSample_ownAddr (u : Fin 8) (v : Int) : (countSample u v s).sup.ownAddr = s.sup.ownAddr := by
  simp only [countSample]; (repeat' split) <;> simp
@[simp] theorem countSample_ownSeg (u : Fin 8) (v : Int) : (countSample u v s).sup.ownSeg = s.sup.ownSeg := by
  simp only [countSample]; (repeat' split) <;> simp
@[simp] theorem countSample_loading (u : Fin 8) (v : Int) : (countSample u v s).sup.loading = s.sup.loading := by
  simp only [countSample]; (repeat' split) <;> simp

@[simp] theorem clearSample_rli (u : Fin 8) (v : Int) : (clearSample u v s).rli = s.rli := by
  simp only [clearSample]; (repeat' split) <;> simp
@[simp] theorem clearSample_lnk (u : Fin 8) (v : Int) : (clearSample u v s).lnk = s.lnk := by
  simp only [clearSample]; (repeat' split) <;> simp
@[simp] theorem clearSample_ros (u : Fin 8) (v : Int) : (clearSample u v s).ros = s.ros := by
  simp only [clearSample]; (repeat' split) <;> simp
@[simp] theorem clearSample_dsu (u : Fin 8) (v : Int) : (clearSample u v s).dsu = s.dsu := by
  simp only [clearSample]; (repeat' split) <;> simp
@[simp] theorem clearSample_msu (u : Fin 8) (v : Int) : (clearSample u v s).msu = s.msu := by
  simp only [clearSample]; (repeat' split) <;> simp
@[simp] theorem clearSample_shr (u : Fin 8) (v : Int) : (clearSample u v s).shr = s.shr := by
  simp only [clearSample]; (repeat' split) <;> simp
@[simp] theorem clearSample_vlv (u : Fin 8) (v : Int) : (clearSample u v s).vlv = s.vlv := by
  simp only [clearSample]; (repeat' split) <;> simp
@[simp] theorem clearSample_svc (u : Fin 8) (v : Int) : (clearSample u v s).svc = s.svc := by
  simp only [clearSample]; (repeat' split) <;> simp
@[simp] theorem clearSample_clk (u : Fin 8) (v : Int) : (clearSample u v s).clk = s.clk := by
  simp only [clearSample]; (repeat' split) <;> simp
@[simp] theorem clearSample_pending (u : Fin 8) (v : Int) : (clearSample u v s).pending = s.pending := by
  simp only [clearSample]; (repeat' split) <;> simp
@[simp] theorem clearSample_cfg (u : Fin 8) (v : Int) : (clearSample u v s).sup.cfg = s.sup.cfg := by
  simp only [clearSample]; (repeat' split) <;> simp
@[simp] theorem clearSample_ownAddr (u : Fin 8) (v : Int) : (clearSample u v s).sup.ownAddr = s.sup.ownAddr := by
  simp only [clearSample]; (repeat' split) <;> simp
@[simp] theorem clearSample_ownSeg (u : Fin 8) (v : Int) : (clearSample u v s).sup.ownSeg = s.sup.ownSeg := by
  simp only [clearSample]; (repeat' split) <;> simp
@[simp] theorem clearSample_loading (u : Fin 8) (v : Int) : (clearSample u v s).sup.loading = s.sup.loading := by
  simp only [clearSample]; (repeat' split) <;> simp
@[simp] theorem clearSample_mode (u : Fin 8) (v : Int) : (clearSample u v s).sup.mode = s.sup.mode := by
  simp only [clearSample]; (repeat' split) <;> simp

@[simp] theorem unitTakesSample_rli (a : UnitStatus) (u : Fin 8) (v : Int) : (unitTakesSample a u v s).rli = s.rli := by
  simp only [unitTakesSample]; (repeat' split) <;> simp
@[simp] theorem unitTakesSample_ros (a : UnitStatus) (u : Fin 8) (v : Int) : (unitTakesSample a u v s).ros = s.ros := by
  simp only [unitTakesSample]; (repeat' split) <;> simp
@[simp] theorem unitTakesSample_msu (a : UnitStatus) (u : Fin 8) (v : Int) : (unitTakesSample a u v s).msu = s.msu := by
  simp only [unitTakesSample]; (repeat' split) <;> simp
@[simp] theorem unitTakesSample_shr (a : UnitStatus) (u : Fin 8) (v : Int) : (unitTakesSample a u v s).shr = s.shr := by
  simp only [unitTakesSample]; (repeat' split) <;> simp
@[simp] theorem unitTakesSample_svc (a : UnitStatus) (u : Fin 8) (v : Int) : (unitTakesSample a u v s).svc = s.svc := by
  simp only [unitTakesSample]; (repeat' split) <;> simp
@[simp] theorem unitTakesSample_clk (a : UnitStatus) (u : Fin 8) (v : Int) : (unitTakesSample a u v s).clk = s.clk := by
  simp only [unitTakesSample]; (repeat' split) <;> simp
@[simp] theorem unitTakesSample_pending (a : UnitStatus) (u : Fin 8) (v : Int) : (unitTakesSample a u v s).pending = s.pending := by
  simp only [unitTakesSample]; (repeat' split) <;> simp
@[simp] theorem unitTakesSample_cfg (a : UnitStatus) (u : Fin 8) (v : Int) : (unitTakesSample a u v s).sup.cfg = s.sup.cfg := by
  simp only [unitTakesSample]; (repeat' split) <;> simp
@[simp] theorem unitTakesSample_ownAddr (a : UnitStatus) (u : Fin 8) (v : Int) : (unitTakesSample a u v s).sup.ownAddr = s.sup.ownAddr := by
  simp only [unitTakesSample]; (repeat' split) <;> simp
@[simp] theorem unitTakesSample_ownSeg (a : UnitStatus) (u : Fin 8) (v : Int) : (unitTakesSample a u v s).sup.ownSeg = s.sup.ownSeg := by
  simp only [unitTakesSample]; (repeat' split) <;> simp
@[simp] theorem unitTakesSample_loading (a : UnitStatus) (u : Fin 8) (v : Int) : (unitTakesSample a u v s).sup.loading = s.sup.loading := by
  simp only [unitTakesSample]; (repeat' split) <;> simp

@[simp] theorem deliverSample_rli (src : Source) (v : Int) : (deliverSample src v s).rli = s.rli := by
  unfold deliverSample; split
  · generalize allUnits = l
    refine foldl_keeps (fun t => t.rli) _ (fun t u => ?_) _ s; split <;> simp
  · rfl
@[simp] theorem deliverSample_ros (src : Source) (v : Int) : (deliverSample src v s).ros = s.ros := by
  unfold deliverSample; split
  · generalize allUnits = l
    refine foldl_keeps (fun t => t.ros) _ (fun t u => ?_) _ s; split <;> simp
  · rfl
@[simp] theorem deliverSample_msu (src : Source) (v : Int) : (deliverSample src v s).msu = s.msu := by
  unfold deliverSample; split
  · generalize allUnits = l
    refine foldl_keeps (fun t => t.msu) _ (fun t u => ?_) _ s; split <;> simp
  · rfl
@[simp] theorem deliverSample_shr (src : Source) (v : Int) : (deliverSample src v s).shr = s.shr := by
  unfold deliverSample; split
  · generalize allUnits = l
    refine foldl_keeps (fun t => t.shr) _ (fun t u => ?_) _ s; split <;> simp
  · rfl
@[simp] theorem deliverSample_svc (src : Source) (v : Int) : (deliverSample src v s).svc = s.svc := by
  unfold deliverSample; split
  · generalize allUnits = l
    refine foldl_keeps (fun t => t.svc) _ (fun t u => ?_) _ s; split <;> simp
  · rfl
@[simp] theorem deliverSample_clk (src : Source) (v : Int) : (deliverSample src v s).clk = s.clk := by
  unfold deliverSample; split
  · generalize allUnits = l
    refine foldl_keeps (fun t => t.clk) _ (fun t u => ?_) _ s; split <;> simp
  · rfl
@[simp] theorem deliverSample_pending (src : Source) (v : Int) : (deliverSample src v s).pending = s.pending := by
  unfold deliverSample; split
  · generalize allUnits = l
    refine foldl_keeps (fun t => t.pending) _ (fun t u => ?_) _ s; split <;> simp
  · rfl
@[simp] theorem deliverSample_cfg (src : Source) (v : Int) : (deliverSample src v s).sup.cfg = s.sup.cfg := by
  unfold deliverSample; split
  · generalize allUnits = l
    refine foldl_keeps (fun t => t.sup.cfg) _ (fun t u => ?_) _ s; split <;> simp
  · rfl
@[simp] theorem deliverSample_ownAddr (src : Source) (v : Int) : (deliverSample src v s).sup.ownAddr = s.sup.ownAddr := by
  unfold deliverSample; split
  · generalize allUnits = l
    refine foldl_keeps (fun t => t.sup.ownAddr) _ (fun t u => ?_) _ s; split <;> simp
  · rfl
@[simp] theorem deliverSample_ownSeg (src : Source) (v : Int) : (deliverSample src v s).sup.ownSeg = s.sup.ownSeg := by
  unfold deliverSample; split
  · generalize allUnits = l
    refine foldl_keeps (fun t => t.sup.ownSeg) _ (fun t u => ?_) _ s; split <;> simp
  · rfl
@[simp] theorem deliverSample_loading (src : Source) (v : Int) : (deliverSample src v s).sup.loading = s.sup.loading := by
  unfold deliverSample; split
  · generalize allUnits = l
    refine foldl_keeps (fun t => t.sup.loading) _ (fun t u => ?_) _ s; split <;> simp
  · rfl

@[simp] theorem watchPeerDrip_rli (a : Address) : (watchPeerDrip a s).rli = s.rli := by
  unfold watchPeerDrip; split <;> simp
@[simp] theorem watchPeerDrip_ros (a : Address) : (watchPeerDrip a s).ros = s.ros := by
  unfold watchPeerDrip; split <;> simp
@[simp] theorem watchPeerDrip_msu (a : Address) : (watchPeerDrip a s).msu = s.msu := by
  unfold watchPeerDrip; split <;> simp
@[simp] theorem watchPeerDrip_shr (a : Address) : (watchPeerDrip a s).shr = s.shr := by
  unfold watchPeerDrip; split <;> simp
@[simp] theorem watchPeerDrip_svc (a : Address) : (watchPeerDrip a s).svc = s.svc := by
  unfold watchPeerDrip; split <;> simp
@[simp] theorem watchPeerDrip_clk (a : Address) : (watchPeerDrip a s).clk = s.clk := by
  unfold watchPeerDrip; split <;> simp
@[simp] theorem watchPeerDrip_pending (a : Address) : (watchPeerDrip a s).pending = s.pending := by
  unfold watchPeerDrip; split <;> simp
@[simp] theorem watchPeerDrip_cfg (a : Address) : (watchPeerDrip a s).sup.cfg = s.sup.cfg := by
  unfold watchPeerDrip; split <;> simp
@[simp] theorem watchPeerDrip_ownAddr (a : Address) : (watchPeerDrip a s).sup.ownAddr = s.sup.ownAddr := by
  unfold watchPeerDrip; split <;> simp
@[simp] theorem watchPeerDrip_ownSeg (a : Address) : (watchPeerDrip a s).sup.ownSeg = s.sup.ownSeg := by
  unfold watchPeerDrip; split <;> simp
@[simp] theorem watchPeerDrip_loading (a : Address) : (watchPeerDrip a s).sup.loading = s.sup.loading := by
  unfold watchPeerDrip; split <;> simp

@[simp] theorem leaveFiredWhere_rli (p : Action → Bool) : (leaveFiredWhere p s).rli = s.rli := by
  unfold leaveFiredWhere; generalize allUnits = l; refine foldl_keeps (fun t => t.rli) _ (fun t u => ?_) _ s; split <;> simp
@[simp] theorem leaveFiredWhere_lnk (p : Action → Bool) : (leaveFiredWhere p s).lnk = s.lnk := by
  unfold leaveFiredWhere; generalize allUnits = l; refine foldl_keeps (fun t => t.lnk) _ (fun t u => ?_) _ s; split <;> simp
@[simp] theorem leaveFiredWhere_ros (p : Action → Bool) : (leaveFiredWhere p s).ros = s.ros := by
  unfold leaveFiredWhere; generalize allUnits = l; refine foldl_keeps (fun t => t.ros) _ (fun t u => ?_) _ s; split <;> simp
@[simp] theorem leaveFiredWhere_dsu (p : Action → Bool) : (leaveFiredWhere p s).dsu = s.dsu := by
  unfold leaveFiredWhere; generalize allUnits = l; refine foldl_keeps (fun t => t.dsu) _ (fun t u => ?_) _ s; split <;> simp
@[simp] theorem leaveFiredWhere_msu (p : Action → Bool) : (leaveFiredWhere p s).msu = s.msu := by
  unfold leaveFiredWhere; generalize allUnits = l; refine foldl_keeps (fun t => t.msu) _ (fun t u => ?_) _ s; split <;> simp
@[simp] theorem leaveFiredWhere_shr (p : Action → Bool) : (leaveFiredWhere p s).shr = s.shr := by
  unfold leaveFiredWhere; generalize allUnits = l; refine foldl_keeps (fun t => t.shr) _ (fun t u => ?_) _ s; split <;> simp
@[simp] theorem leaveFiredWhere_vlv (p : Action → Bool) : (leaveFiredWhere p s).vlv = s.vlv := by
  unfold leaveFiredWhere; generalize allUnits = l; refine foldl_keeps (fun t => t.vlv) _ (fun t u => ?_) _ s; split <;> simp
@[simp] theorem leaveFiredWhere_svc (p : Action → Bool) : (leaveFiredWhere p s).svc = s.svc := by
  unfold leaveFiredWhere; generalize allUnits = l; refine foldl_keeps (fun t => t.svc) _ (fun t u => ?_) _ s; split <;> simp
@[simp] theorem leaveFiredWhere_clk (p : Action → Bool) : (leaveFiredWhere p s).clk = s.clk := by
  unfold leaveFiredWhere; generalize allUnits = l; refine foldl_keeps (fun t => t.clk) _ (fun t u => ?_) _ s; split <;> simp
@[simp] theorem leaveFiredWhere_pending (p : Action → Bool) : (leaveFiredWhere p s).pending = s.pending := by
  unfold leaveFiredWhere; generalize allUnits = l; refine foldl_keeps (fun t => t.pending) _ (fun t u => ?_) _ s; split <;> simp
@[simp] theorem leaveFiredWhere_cfg (p : Action → Bool) : (leaveFiredWhere p s).sup.cfg = s.sup.cfg := by
  unfold leaveFiredWhere; generalize allUnits = l; refine foldl_keeps (fun t => t.sup.cfg) _ (fun t u => ?_) _ s; split <;> simp
@[simp] theorem leaveFiredWhere_ownAddr (p : Action → Bool) : (leaveFiredWhere p s).sup.ownAddr = s.sup.ownAddr := by
  unfold leaveFiredWhere; generalize allUnits = l; refine foldl_keeps (fun t => t.sup.ownAddr) _ (fun t u => ?_) _ s; split <;> simp
@[simp] theorem leaveFiredWhere_ownSeg (p : Action → Bool) : (leaveFiredWhere p s).sup.ownSeg = s.sup.ownSeg := by
  unfold leaveFiredWhere; generalize allUnits = l; refine foldl_keeps (fun t => t.sup.ownSeg) _ (fun t u => ?_) _ s; split <;> simp
@[simp] theorem leaveFiredWhere_loading (p : Action → Bool) : (leaveFiredWhere p s).sup.loading = s.sup.loading := by
  unfold leaveFiredWhere; generalize allUnits = l; refine foldl_keeps (fun t => t.sup.loading) _ (fun t u => ?_) _ s; split <;> simp
@[simp] theorem leaveFiredWhere_mode (p : Action → Bool) : (leaveFiredWhere p s).sup.mode = s.sup.mode := by
  unfold leaveFiredWhere; generalize allUnits = l; refine foldl_keeps (fun t => t.sup.mode) _ (fun t u => ?_) _ s; split <;> simp

/-! ## Drip sensing unit: readings and the dry check -/

@[simp] theorem deliverReading_rli (r : ZoneReading) : (deliverReading r s).rli = s.rli := by
  simp [deliverReading]
@[simp] theorem deliverReading_ros (r : ZoneReading) : (deliverReading r s).ros = s.ros := by
  simp [deliverReading]
@[simp] theorem deliverReading_msu (r : ZoneReading) : (deliverReading r s).msu = s.msu := by
  simp [deliverReading]
@[simp] theorem deliverReading_shr (r : ZoneReading) : (deliverReading r s).shr = s.shr := by
  simp [deliverReading]
@[simp] theorem deliverReading_svc (r : ZoneReading) : (deliverReading r s).svc = s.svc := by
  simp [deliverReading]
@[simp] theorem deliverReading_clk (r : ZoneReading) : (deliverReading r s).clk = s.clk := by
  simp [deliverReading]
@[simp] theorem deliverReading_pending (r : ZoneReading) : (deliverReading r s).pending = s.pending := by
  simp [deliverReading]
@[simp] theorem deliverReading_cfg (r : ZoneReading) : (deliverReading r s).sup.cfg = s.sup.cfg := by
  simp [deliverReading]
@[simp] theorem deliverReading_ownAddr (r : ZoneReading) : (deliverReading r s).sup.ownAddr = s.sup.ownAddr := by
  simp [deliverReading]
@[simp] theorem deliverReading_ownSeg (r : ZoneReading) : (deliverReading r s).sup.ownSeg = s.sup.ownSeg := by
  simp [deliverReading]
@[simp] theorem deliverReading_loading (r : ZoneReading) : (deliverReading r s).sup.loading = s.sup.loading := by
  simp [deliverReading]

@[simp] theorem failDryCheck_rli : (failDryCheck s).rli = s.rli := by
  simp [failDryCheck]
@[simp] theorem failDryCheck_lnk : (failDryCheck s).lnk = s.lnk := by
  simp [failDryCheck]
@[simp] theorem failDryCheck_ros : (failDryCheck s).ros = s.ros := by
  simp [failDryCheck]
@[simp] theorem failDryCheck_dsu : (failDryCheck s).dsu = s.dsu := by
  simp [failDryCheck]
@[simp] theorem failDryCheck_msu : (failDryCheck s).msu = s.msu := by
  simp [failDryCheck]
@[simp] theorem failDryCheck_wch : (failDryCheck s).wch = s.wch := by
  simp [failDryCheck]
@[simp] theorem failDryCheck_shr : (failDryCheck s).shr = s.shr := by
  simp [failDryCheck]
@[simp] theorem failDryCheck_vlv : (failDryCheck s).vlv = s.vlv := by
  simp [failDryCheck]
@[simp] theorem failDryCheck_cap : (failDryCheck s).cap = s.cap := by
  simp [failDryCheck]
@[simp] theorem failDryCheck_svc : (failDryCheck s).svc = s.svc := by
  simp [failDryCheck]
@[simp] theorem failDryCheck_clk : (failDryCheck s).clk = s.clk := by
  simp [failDryCheck]
@[simp] theorem failDryCheck_pending : (failDryCheck s).pending = s.pending := by
  simp [failDryCheck]
@[simp] theorem failDryCheck_cfg : (failDryCheck s).sup.cfg = s.sup.cfg := by
  simp [failDryCheck]
@[simp] theorem failDryCheck_ownAddr : (failDryCheck s).sup.ownAddr = s.sup.ownAddr := by
  simp [failDryCheck]
@[simp] theorem failDryCheck_ownSeg : (failDryCheck s).sup.ownSeg = s.sup.ownSeg := by
  simp [failDryCheck]
@[simp] theorem failDryCheck_loading : (failDryCheck s).sup.loading = s.sup.loading := by
  simp [failDryCheck]
@[simp] theorem failDryCheck_mode : (failDryCheck s).sup.mode = s.sup.mode := by
  simp [failDryCheck]

@[simp] theorem fireDryCheckUnits_rli (us : List (Fin 8)) : (fireDryCheckUnits us s).rli = s.rli := by
  unfold fireDryCheckUnits; refine foldl_keeps (fun t => t.rli) _ (fun t u => ?_) _ s; split <;> simp
@[simp] theorem fireDryCheckUnits_lnk (us : List (Fin 8)) : (fireDryCheckUnits us s).lnk = s.lnk := by
  unfold fireDryCheckUnits; refine foldl_keeps (fun t => t.lnk) _ (fun t u => ?_) _ s; split <;> simp
@[simp] theorem fireDryCheckUnits_ros (us : List (Fin 8)) : (fireDryCheckUnits us s).ros = s.ros := by
  unfold fireDryCheckUnits; refine foldl_keeps (fun t => t.ros) _ (fun t u => ?_) _ s; split <;> simp
@[simp] theorem fireDryCheckUnits_dsu (us : List (Fin 8)) : (fireDryCheckUnits us s).dsu = s.dsu := by
  unfold fireDryCheckUnits; refine foldl_keeps (fun t => t.dsu) _ (fun t u => ?_) _ s; split <;> simp
@[simp] theorem fireDryCheckUnits_msu (us : List (Fin 8)) : (fireDryCheckUnits us s).msu = s.msu := by
  unfold fireDryCheckUnits; refine foldl_keeps (fun t => t.msu) _ (fun t u => ?_) _ s; split <;> simp
@[simp] theorem fireDryCheckUnits_shr (us : List (Fin 8)) : (fireDryCheckUnits us s).shr = s.shr := by
  unfold fireDryCheckUnits; refine foldl_keeps (fun t => t.shr) _ (fun t u => ?_) _ s; split <;> simp
@[simp] theorem fireDryCheckUnits_vlv (us : List (Fin 8)) : (fireDryCheckUnits us s).vlv = s.vlv := by
  unfold fireDryCheckUnits; refine foldl_keeps (fun t => t.vlv) _ (fun t u => ?_) _ s; split <;> simp
@[simp] theorem fireDryCheckUnits_svc (us : List (Fin 8)) : (fireDryCheckUnits us s).svc = s.svc := by
  unfold fireDryCheckUnits; refine foldl_keeps (fun t => t.svc) _ (fun t u => ?_) _ s; split <;> simp
@[simp] theorem fireDryCheckUnits_clk (us : List (Fin 8)) : (fireDryCheckUnits us s).clk = s.clk := by
  unfold fireDryCheckUnits; refine foldl_keeps (fun t => t.clk) _ (fun t u => ?_) _ s; split <;> simp
@[simp] theorem fireDryCheckUnits_pending (us : List (Fin 8)) : (fireDryCheckUnits us s).pending = s.pending := by
  unfold fireDryCheckUnits; refine foldl_keeps (fun t => t.pending) _ (fun t u => ?_) _ s; split <;> simp
@[simp] theorem fireDryCheckUnits_cfg (us : List (Fin 8)) : (fireDryCheckUnits us s).sup.cfg = s.sup.cfg := by
  unfold fireDryCheckUnits; refine foldl_keeps (fun t => t.sup.cfg) _ (fun t u => ?_) _ s; split <;> simp
@[simp] theorem fireDryCheckUnits_ownAddr (us : List (Fin 8)) : (fireDryCheckUnits us s).sup.ownAddr = s.sup.ownAddr := by
  unfold fireDryCheckUnits; refine foldl_keeps (fun t => t.sup.ownAddr) _ (fun t u => ?_) _ s; split <;> simp
@[simp] theorem fireDryCheckUnits_ownSeg (us : List (Fin 8)) : (fireDryCheckUnits us s).sup.ownSeg = s.sup.ownSeg := by
  unfold fireDryCheckUnits; refine foldl_keeps (fun t => t.sup.ownSeg) _ (fun t u => ?_) _ s; split <;> simp
@[simp] theorem fireDryCheckUnits_loading (us : List (Fin 8)) : (fireDryCheckUnits us s).sup.loading = s.sup.loading := by
  unfold fireDryCheckUnits; refine foldl_keeps (fun t => t.sup.loading) _ (fun t u => ?_) _ s; split <;> simp
@[simp] theorem fireDryCheckUnits_mode (us : List (Fin 8)) : (fireDryCheckUnits us s).sup.mode = s.sup.mode := by
  unfold fireDryCheckUnits; refine foldl_keeps (fun t => t.sup.mode) _ (fun t u => ?_) _ s; split <;> simp

@[simp] theorem resolveDryCheck_rli : (resolveDryCheck s).rli = s.rli := by
  simp only [resolveDryCheck]; split <;> simp
@[simp] theorem resolveDryCheck_ros : (resolveDryCheck s).ros = s.ros := by
  simp only [resolveDryCheck]; split <;> simp
@[simp] theorem resolveDryCheck_msu : (resolveDryCheck s).msu = s.msu := by
  simp only [resolveDryCheck]; split <;> simp
@[simp] theorem resolveDryCheck_shr : (resolveDryCheck s).shr = s.shr := by
  simp only [resolveDryCheck]; split <;> simp
@[simp] theorem resolveDryCheck_svc : (resolveDryCheck s).svc = s.svc := by
  simp only [resolveDryCheck]; split <;> simp
@[simp] theorem resolveDryCheck_clk : (resolveDryCheck s).clk = s.clk := by
  simp only [resolveDryCheck]; split <;> simp
@[simp] theorem resolveDryCheck_pending : (resolveDryCheck s).pending = s.pending := by
  simp only [resolveDryCheck]; split <;> simp
@[simp] theorem resolveDryCheck_cfg : (resolveDryCheck s).sup.cfg = s.sup.cfg := by
  simp only [resolveDryCheck]; split <;> simp
@[simp] theorem resolveDryCheck_ownAddr : (resolveDryCheck s).sup.ownAddr = s.sup.ownAddr := by
  simp only [resolveDryCheck]; split <;> simp
@[simp] theorem resolveDryCheck_ownSeg : (resolveDryCheck s).sup.ownSeg = s.sup.ownSeg := by
  simp only [resolveDryCheck]; split <;> simp
@[simp] theorem resolveDryCheck_loading : (resolveDryCheck s).sup.loading = s.sup.loading := by
  simp only [resolveDryCheck]; split <;> simp

@[simp] theorem completeScan_rli : (completeScan s).rli = s.rli := by
  unfold completeScan; rw [endScan_rli]; split <;> simp
@[simp] theorem completeScan_ros : (completeScan s).ros = s.ros := by
  unfold completeScan; rw [endScan_ros]; split <;> simp
@[simp] theorem completeScan_msu : (completeScan s).msu = s.msu := by
  unfold completeScan; rw [endScan_msu]; split <;> simp
@[simp] theorem completeScan_shr : (completeScan s).shr = s.shr := by
  unfold completeScan; rw [endScan_shr]; split <;> simp
@[simp] theorem completeScan_svc : (completeScan s).svc = s.svc := by
  unfold completeScan; rw [endScan_svc]; split <;> simp
@[simp] theorem completeScan_clk : (completeScan s).clk = s.clk := by
  unfold completeScan; rw [endScan_clk]; split <;> simp
@[simp] theorem completeScan_pending : (completeScan s).pending = s.pending := by
  unfold completeScan; rw [endScan_pending]; split <;> simp
@[simp] theorem completeScan_cfg : (completeScan s).sup.cfg = s.sup.cfg := by
  unfold completeScan; rw [endScan_sup]; split <;> simp
@[simp] theorem completeScan_ownAddr : (completeScan s).sup.ownAddr = s.sup.ownAddr := by
  unfold completeScan; rw [endScan_sup]; split <;> simp
@[simp] theorem completeScan_ownSeg : (completeScan s).sup.ownSeg = s.sup.ownSeg := by
  unfold completeScan; rw [endScan_sup]; split <;> simp
@[simp] theorem completeScan_loading : (completeScan s).sup.loading = s.sup.loading := by
  unfold completeScan; rw [endScan_sup]; split <;> simp

@[simp] theorem joinFault_rli : (joinFault s).rli = s.rli := by
  simp only [joinFault]; (repeat' split) <;> simp
@[simp] theorem joinFault_ros : (joinFault s).ros = s.ros := by
  simp only [joinFault]; (repeat' split) <;> simp
@[simp] theorem joinFault_msu : (joinFault s).msu = s.msu := by
  simp only [joinFault]; (repeat' split) <;> simp
@[simp] theorem joinFault_wch : (joinFault s).wch = s.wch := by
  simp only [joinFault]; (repeat' split) <;> simp
@[simp] theorem joinFault_shr : (joinFault s).shr = s.shr := by
  simp only [joinFault]; (repeat' split) <;> simp
@[simp] theorem joinFault_svc : (joinFault s).svc = s.svc := by
  simp only [joinFault]; (repeat' split) <;> simp
@[simp] theorem joinFault_clk : (joinFault s).clk = s.clk := by
  simp only [joinFault]; (repeat' split) <;> simp
@[simp] theorem joinFault_pending : (joinFault s).pending = s.pending := by
  simp only [joinFault]; (repeat' split) <;> simp
@[simp] theorem joinFault_cfg : (joinFault s).sup.cfg = s.sup.cfg := by
  simp only [joinFault]; (repeat' split) <;> simp
@[simp] theorem joinFault_ownAddr : (joinFault s).sup.ownAddr = s.sup.ownAddr := by
  simp only [joinFault]; (repeat' split) <;> simp
@[simp] theorem joinFault_ownSeg : (joinFault s).sup.ownSeg = s.sup.ownSeg := by
  simp only [joinFault]; (repeat' split) <;> simp
@[simp] theorem joinFault_loading : (joinFault s).sup.loading = s.sup.loading := by
  simp only [joinFault]; (repeat' split) <;> simp

@[simp] theorem afterSensorPhase_rli (z : Fin 4) : (afterSensorPhase z s).rli = s.rli := by
  unfold afterSensorPhase; split <;> simp
@[simp] theorem afterSensorPhase_ros (z : Fin 4) : (afterSensorPhase z s).ros = s.ros := by
  unfold afterSensorPhase; split <;> simp
@[simp] theorem afterSensorPhase_msu (z : Fin 4) : (afterSensorPhase z s).msu = s.msu := by
  unfold afterSensorPhase; split <;> simp
@[simp] theorem afterSensorPhase_shr (z : Fin 4) : (afterSensorPhase z s).shr = s.shr := by
  unfold afterSensorPhase; split <;> simp
@[simp] theorem afterSensorPhase_svc (z : Fin 4) : (afterSensorPhase z s).svc = s.svc := by
  unfold afterSensorPhase; split <;> simp
@[simp] theorem afterSensorPhase_clk (z : Fin 4) : (afterSensorPhase z s).clk = s.clk := by
  unfold afterSensorPhase; split <;> simp
@[simp] theorem afterSensorPhase_pending (z : Fin 4) : (afterSensorPhase z s).pending = s.pending := by
  unfold afterSensorPhase; split <;> simp
@[simp] theorem afterSensorPhase_cfg (z : Fin 4) : (afterSensorPhase z s).sup.cfg = s.sup.cfg := by
  unfold afterSensorPhase; split <;> simp
@[simp] theorem afterSensorPhase_ownAddr (z : Fin 4) : (afterSensorPhase z s).sup.ownAddr = s.sup.ownAddr := by
  unfold afterSensorPhase; split <;> simp
@[simp] theorem afterSensorPhase_ownSeg (z : Fin 4) : (afterSensorPhase z s).sup.ownSeg = s.sup.ownSeg := by
  unfold afterSensorPhase; split <;> simp
@[simp] theorem afterSensorPhase_loading (z : Fin 4) : (afterSensorPhase z s).sup.loading = s.sup.loading := by
  unfold afterSensorPhase; split <;> simp

/-! ## Share computer and measurement unit -/

@[simp] theorem receiveDuty_sup (d : Nat) : (receiveDuty d s).sup = s.sup := by
  unfold receiveDuty; split <;> simp
@[simp] theorem receiveDuty_rli (d : Nat) : (receiveDuty d s).rli = s.rli := by
  unfold receiveDuty; split <;> simp
@[simp] theorem receiveDuty_lnk (d : Nat) : (receiveDuty d s).lnk = s.lnk := by
  unfold receiveDuty; split <;> simp
@[simp] theorem receiveDuty_ros (d : Nat) : (receiveDuty d s).ros = s.ros := by
  unfold receiveDuty; split <;> simp
@[simp] theorem receiveDuty_dsu (d : Nat) : (receiveDuty d s).dsu = s.dsu := by
  unfold receiveDuty; split <;> simp
@[simp] theorem receiveDuty_msu (d : Nat) : (receiveDuty d s).msu = s.msu := by
  unfold receiveDuty; split <;> simp
@[simp] theorem receiveDuty_wch (d : Nat) : (receiveDuty d s).wch = s.wch := by
  unfold receiveDuty; split <;> simp
@[simp] theorem receiveDuty_shr (d : Nat) : (receiveDuty d s).shr = s.shr := by
  unfold receiveDuty; split <;> simp
@[simp] theorem receiveDuty_cap (d : Nat) : (receiveDuty d s).cap = s.cap := by
  unfold receiveDuty; split <;> simp
@[simp] theorem receiveDuty_svc (d : Nat) : (receiveDuty d s).svc = s.svc := by
  unfold receiveDuty; split <;> simp
@[simp] theorem receiveDuty_clk (d : Nat) : (receiveDuty d s).clk = s.clk := by
  unfold receiveDuty; split <;> simp
@[simp] theorem receiveDuty_pending (d : Nat) : (receiveDuty d s).pending = s.pending := by
  unfold receiveDuty; split <;> simp

@[simp] theorem processedSet_sup (m : MeasurementSet) : (processedSet m s).sup = s.sup := by
  unfold processedSet; split <;> simp
@[simp] theorem processedSet_rli (m : MeasurementSet) : (processedSet m s).rli = s.rli := by
  unfold processedSet; split <;> simp
@[simp] theorem processedSet_lnk (m : MeasurementSet) : (processedSet m s).lnk = s.lnk := by
  unfold processedSet; split <;> simp
@[simp] theorem processedSet_ros (m : MeasurementSet) : (processedSet m s).ros = s.ros := by
  unfold processedSet; split <;> simp
@[simp] theorem processedSet_dsu (m : MeasurementSet) : (processedSet m s).dsu = s.dsu := by
  unfold processedSet; split <;> simp
@[simp] theorem processedSet_msu (m : MeasurementSet) : (processedSet m s).msu = s.msu := by
  unfold processedSet; split <;> simp
@[simp] theorem processedSet_wch (m : MeasurementSet) : (processedSet m s).wch = s.wch := by
  unfold processedSet; split <;> simp
@[simp] theorem processedSet_shr (m : MeasurementSet) : (processedSet m s).shr = s.shr := by
  unfold processedSet; split <;> simp
@[simp] theorem processedSet_vlv (m : MeasurementSet) : (processedSet m s).vlv = s.vlv := by
  unfold processedSet; split <;> simp
@[simp] theorem processedSet_svc (m : MeasurementSet) : (processedSet m s).svc = s.svc := by
  unfold processedSet; split <;> simp
@[simp] theorem processedSet_clk (m : MeasurementSet) : (processedSet m s).clk = s.clk := by
  unfold processedSet; split <;> simp
@[simp] theorem processedSet_pending (m : MeasurementSet) : (processedSet m s).pending = s.pending := by
  unfold processedSet; split <;> simp

@[simp] theorem parkShare_sup : (parkShare s).sup = s.sup := by
  simp [parkShare]
@[simp] theorem parkShare_rli : (parkShare s).rli = s.rli := by
  simp [parkShare]
@[simp] theorem parkShare_lnk : (parkShare s).lnk = s.lnk := by
  simp [parkShare]
@[simp] theorem parkShare_ros : (parkShare s).ros = s.ros := by
  simp [parkShare]
@[simp] theorem parkShare_dsu : (parkShare s).dsu = s.dsu := by
  simp [parkShare]
@[simp] theorem parkShare_msu : (parkShare s).msu = s.msu := by
  simp [parkShare]
@[simp] theorem parkShare_wch : (parkShare s).wch = s.wch := by
  simp [parkShare]
@[simp] theorem parkShare_vlv : (parkShare s).vlv = s.vlv := by
  simp [parkShare]
@[simp] theorem parkShare_cap : (parkShare s).cap = s.cap := by
  simp [parkShare]
@[simp] theorem parkShare_svc : (parkShare s).svc = s.svc := by
  simp [parkShare]
@[simp] theorem parkShare_clk : (parkShare s).clk = s.clk := by
  simp [parkShare]
@[simp] theorem parkShare_pending : (parkShare s).pending = s.pending := by
  simp [parkShare]

@[simp] theorem controlStep_rli (m : MeasurementSet) : (controlStep m s).rli = s.rli := by
  simp only [controlStep]; split <;> simp
@[simp] theorem controlStep_ros (m : MeasurementSet) : (controlStep m s).ros = s.ros := by
  simp only [controlStep]; split <;> simp
@[simp] theorem controlStep_msu (m : MeasurementSet) : (controlStep m s).msu = s.msu := by
  simp only [controlStep]; split <;> simp
@[simp] theorem controlStep_svc (m : MeasurementSet) : (controlStep m s).svc = s.svc := by
  simp only [controlStep]; split <;> simp
@[simp] theorem controlStep_clk (m : MeasurementSet) : (controlStep m s).clk = s.clk := by
  simp only [controlStep]; split <;> simp
@[simp] theorem controlStep_pending (m : MeasurementSet) : (controlStep m s).pending = s.pending := by
  simp only [controlStep]; split <;> simp
@[simp] theorem controlStep_cfg (m : MeasurementSet) : (controlStep m s).sup.cfg = s.sup.cfg := by
  simp only [controlStep]; split <;> simp
@[simp] theorem controlStep_ownAddr (m : MeasurementSet) : (controlStep m s).sup.ownAddr = s.sup.ownAddr := by
  simp only [controlStep]; split <;> simp
@[simp] theorem controlStep_ownSeg (m : MeasurementSet) : (controlStep m s).sup.ownSeg = s.sup.ownSeg := by
  simp only [controlStep]; split <;> simp
@[simp] theorem controlStep_loading (m : MeasurementSet) : (controlStep m s).sup.loading = s.sup.loading := by
  simp only [controlStep]; split <;> simp

@[simp] theorem deliverIf_rli (src : Source) (b : Bool) (v : Option Int) : (deliverIf src b v s).rli = s.rli := by
  unfold deliverIf; split <;> simp
@[simp] theorem deliverIf_ros (src : Source) (b : Bool) (v : Option Int) : (deliverIf src b v s).ros = s.ros := by
  unfold deliverIf; split <;> simp
@[simp] theorem deliverIf_msu (src : Source) (b : Bool) (v : Option Int) : (deliverIf src b v s).msu = s.msu := by
  unfold deliverIf; split <;> simp
@[simp] theorem deliverIf_shr (src : Source) (b : Bool) (v : Option Int) : (deliverIf src b v s).shr = s.shr := by
  unfold deliverIf; split <;> simp
@[simp] theorem deliverIf_svc (src : Source) (b : Bool) (v : Option Int) : (deliverIf src b v s).svc = s.svc := by
  unfold deliverIf; split <;> simp
@[simp] theorem deliverIf_clk (src : Source) (b : Bool) (v : Option Int) : (deliverIf src b v s).clk = s.clk := by
  unfold deliverIf; split <;> simp
@[simp] theorem deliverIf_pending (src : Source) (b : Bool) (v : Option Int) : (deliverIf src b v s).pending = s.pending := by
  unfold deliverIf; split <;> simp
@[simp] theorem deliverIf_cfg (src : Source) (b : Bool) (v : Option Int) : (deliverIf src b v s).sup.cfg = s.sup.cfg := by
  unfold deliverIf; split <;> simp
@[simp] theorem deliverIf_ownAddr (src : Source) (b : Bool) (v : Option Int) : (deliverIf src b v s).sup.ownAddr = s.sup.ownAddr := by
  unfold deliverIf; split <;> simp
@[simp] theorem deliverIf_ownSeg (src : Source) (b : Bool) (v : Option Int) : (deliverIf src b v s).sup.ownSeg = s.sup.ownSeg := by
  unfold deliverIf; split <;> simp
@[simp] theorem deliverIf_loading (src : Source) (b : Bool) (v : Option Int) : (deliverIf src b v s).sup.loading = s.sup.loading := by
  unfold deliverIf; split <;> simp

@[simp] theorem deliverSetSamples_rli (m : MeasurementSet) : (deliverSetSamples m s).rli = s.rli := by
  simp [deliverSetSamples]
@[simp] theorem deliverSetSamples_ros (m : MeasurementSet) : (deliverSetSamples m s).ros = s.ros := by
  simp [deliverSetSamples]
@[simp] theorem deliverSetSamples_msu (m : MeasurementSet) : (deliverSetSamples m s).msu = s.msu := by
  simp [deliverSetSamples]
@[simp] theorem deliverSetSamples_shr (m : MeasurementSet) : (deliverSetSamples m s).shr = s.shr := by
  simp [deliverSetSamples]
@[simp] theorem deliverSetSamples_svc (m : MeasurementSet) : (deliverSetSamples m s).svc = s.svc := by
  simp [deliverSetSamples]
@[simp] theorem deliverSetSamples_clk (m : MeasurementSet) : (deliverSetSamples m s).clk = s.clk := by
  simp [deliverSetSamples]
@[simp] theorem deliverSetSamples_pending (m : MeasurementSet) : (deliverSetSamples m s).pending = s.pending := by
  simp [deliverSetSamples]
@[simp] theorem deliverSetSamples_cfg (m : MeasurementSet) : (deliverSetSamples m s).sup.cfg = s.sup.cfg := by
  simp [deliverSetSamples]
@[simp] theorem deliverSetSamples_ownAddr (m : MeasurementSet) : (deliverSetSamples m s).sup.ownAddr = s.sup.ownAddr := by
  simp [deliverSetSamples]
@[simp] theorem deliverSetSamples_ownSeg (m : MeasurementSet) : (deliverSetSamples m s).sup.ownSeg = s.sup.ownSeg := by
  simp [deliverSetSamples]
@[simp] theorem deliverSetSamples_loading (m : MeasurementSet) : (deliverSetSamples m s).sup.loading = s.sup.loading := by
  simp [deliverSetSamples]

@[simp] theorem deliverSet_rli (m : MeasurementSet) : (deliverSet m s).rli = s.rli := by
  simp only [deliverSet]; split <;> simp
@[simp] theorem deliverSet_ros (m : MeasurementSet) : (deliverSet m s).ros = s.ros := by
  simp only [deliverSet]; split <;> simp
@[simp] theorem deliverSet_msu (m : MeasurementSet) : (deliverSet m s).msu = s.msu := by
  simp only [deliverSet]; split <;> simp
@[simp] theorem deliverSet_svc (m : MeasurementSet) : (deliverSet m s).svc = s.svc := by
  simp only [deliverSet]; split <;> simp
@[simp] theorem deliverSet_clk (m : MeasurementSet) : (deliverSet m s).clk = s.clk := by
  simp only [deliverSet]; split <;> simp
@[simp] theorem deliverSet_pending (m : MeasurementSet) : (deliverSet m s).pending = s.pending := by
  simp only [deliverSet]; split <;> simp
@[simp] theorem deliverSet_cfg (m : MeasurementSet) : (deliverSet m s).sup.cfg = s.sup.cfg := by
  simp only [deliverSet]; split <;> simp
@[simp] theorem deliverSet_ownAddr (m : MeasurementSet) : (deliverSet m s).sup.ownAddr = s.sup.ownAddr := by
  simp only [deliverSet]; split <;> simp
@[simp] theorem deliverSet_ownSeg (m : MeasurementSet) : (deliverSet m s).sup.ownSeg = s.sup.ownSeg := by
  simp only [deliverSet]; split <;> simp
@[simp] theorem deliverSet_loading (m : MeasurementSet) : (deliverSet m s).sup.loading = s.sup.loading := by
  simp only [deliverSet]; split <;> simp

/-! ## Roster and link -/

@[simp] theorem changeNotice_rli : (changeNotice s).rli = s.rli := by
  simp [changeNotice]
@[simp] theorem changeNotice_ros : (changeNotice s).ros = s.ros := by
  simp [changeNotice]
@[simp] theorem changeNotice_msu : (changeNotice s).msu = s.msu := by
  simp [changeNotice]
@[simp] theorem changeNotice_wch : (changeNotice s).wch = s.wch := by
  simp [changeNotice]
@[simp] theorem changeNotice_shr : (changeNotice s).shr = s.shr := by
  simp [changeNotice]
@[simp] theorem changeNotice_vlv : (changeNotice s).vlv = s.vlv := by
  simp [changeNotice]
@[simp] theorem changeNotice_svc : (changeNotice s).svc = s.svc := by
  simp [changeNotice]
@[simp] theorem changeNotice_clk : (changeNotice s).clk = s.clk := by
  simp [changeNotice]
@[simp] theorem changeNotice_pending : (changeNotice s).pending = s.pending := by
  simp [changeNotice]
@[simp] theorem changeNotice_cfg : (changeNotice s).sup.cfg = s.sup.cfg := by
  simp [changeNotice]
@[simp] theorem changeNotice_ownAddr : (changeNotice s).sup.ownAddr = s.sup.ownAddr := by
  simp [changeNotice]
@[simp] theorem changeNotice_ownSeg : (changeNotice s).sup.ownSeg = s.sup.ownSeg := by
  simp [changeNotice]
@[simp] theorem changeNotice_loading : (changeNotice s).sup.loading = s.sup.loading := by
  simp [changeNotice]

@[simp] theorem peerDripArrival_rli (a : Address) (v : Severity) : (peerDripArrival a v s).rli = s.rli := by
  simp [peerDripArrival]
@[simp] theorem peerDripArrival_ros (a : Address) (v : Severity) : (peerDripArrival a v s).ros = s.ros := by
  simp [peerDripArrival]
@[simp] theorem peerDripArrival_msu (a : Address) (v : Severity) : (peerDripArrival a v s).msu = s.msu := by
  simp [peerDripArrival]
@[simp] theorem peerDripArrival_shr (a : Address) (v : Severity) : (peerDripArrival a v s).shr = s.shr := by
  simp [peerDripArrival]
@[simp] theorem peerDripArrival_svc (a : Address) (v : Severity) : (peerDripArrival a v s).svc = s.svc := by
  simp [peerDripArrival]
@[simp] theorem peerDripArrival_clk (a : Address) (v : Severity) : (peerDripArrival a v s).clk = s.clk := by
  simp [peerDripArrival]
@[simp] theorem peerDripArrival_pending (a : Address) (v : Severity) : (peerDripArrival a v s).pending = s.pending := by
  simp [peerDripArrival]
@[simp] theorem peerDripArrival_cfg (a : Address) (v : Severity) : (peerDripArrival a v s).sup.cfg = s.sup.cfg := by
  simp [peerDripArrival]
@[simp] theorem peerDripArrival_ownAddr (a : Address) (v : Severity) : (peerDripArrival a v s).sup.ownAddr = s.sup.ownAddr := by
  simp [peerDripArrival]
@[simp] theorem peerDripArrival_ownSeg (a : Address) (v : Severity) : (peerDripArrival a v s).sup.ownSeg = s.sup.ownSeg := by
  simp [peerDripArrival]
@[simp] theorem peerDripArrival_loading (a : Address) (v : Severity) : (peerDripArrival a v s).sup.loading = s.sup.loading := by
  simp [peerDripArrival]

@[simp] theorem takeFrame_rli (a : Address) (f : PeerFrame) : (takeFrame a f s).rli = s.rli := by
  simp only [takeFrame]; (repeat' split) <;> simp
@[simp] theorem takeFrame_msu (a : Address) (f : PeerFrame) : (takeFrame a f s).msu = s.msu := by
  simp only [takeFrame]; (repeat' split) <;> simp
@[simp] theorem takeFrame_shr (a : Address) (f : PeerFrame) : (takeFrame a f s).shr = s.shr := by
  simp only [takeFrame]; (repeat' split) <;> simp
@[simp] theorem takeFrame_svc (a : Address) (f : PeerFrame) : (takeFrame a f s).svc = s.svc := by
  simp only [takeFrame]; (repeat' split) <;> simp
@[simp] theorem takeFrame_clk (a : Address) (f : PeerFrame) : (takeFrame a f s).clk = s.clk := by
  simp only [takeFrame]; (repeat' split) <;> simp
@[simp] theorem takeFrame_pending (a : Address) (f : PeerFrame) : (takeFrame a f s).pending = s.pending := by
  simp only [takeFrame]; (repeat' split) <;> simp
@[simp] theorem takeFrame_cfg (a : Address) (f : PeerFrame) : (takeFrame a f s).sup.cfg = s.sup.cfg := by
  simp only [takeFrame]; (repeat' split) <;> simp
@[simp] theorem takeFrame_ownAddr (a : Address) (f : PeerFrame) : (takeFrame a f s).sup.ownAddr = s.sup.ownAddr := by
  simp only [takeFrame]; (repeat' split) <;> simp
@[simp] theorem takeFrame_ownSeg (a : Address) (f : PeerFrame) : (takeFrame a f s).sup.ownSeg = s.sup.ownSeg := by
  simp only [takeFrame]; (repeat' split) <;> simp
@[simp] theorem takeFrame_loading (a : Address) (f : PeerFrame) : (takeFrame a f s).sup.loading = s.sup.loading := by
  simp only [takeFrame]; (repeat' split) <;> simp

@[simp] theorem receptionError_sup (e : LinkError) : (receptionError e s).sup = s.sup := by
  simp [receptionError]
@[simp] theorem receptionError_ros (e : LinkError) : (receptionError e s).ros = s.ros := by
  simp [receptionError]
@[simp] theorem receptionError_dsu (e : LinkError) : (receptionError e s).dsu = s.dsu := by
  simp [receptionError]
@[simp] theorem receptionError_msu (e : LinkError) : (receptionError e s).msu = s.msu := by
  simp [receptionError]
@[simp] theorem receptionError_wch (e : LinkError) : (receptionError e s).wch = s.wch := by
  simp [receptionError]
@[simp] theorem receptionError_shr (e : LinkError) : (receptionError e s).shr = s.shr := by
  simp [receptionError]
@[simp] theorem receptionError_vlv (e : LinkError) : (receptionError e s).vlv = s.vlv := by
  simp [receptionError]
@[simp] theorem receptionError_cap (e : LinkError) : (receptionError e s).cap = s.cap := by
  simp [receptionError]
@[simp] theorem receptionError_svc (e : LinkError) : (receptionError e s).svc = s.svc := by
  simp [receptionError]
@[simp] theorem receptionError_clk (e : LinkError) : (receptionError e s).clk = s.clk := by
  simp [receptionError]
@[simp] theorem receptionError_pending (e : LinkError) : (receptionError e s).pending = s.pending := by
  simp [receptionError]

@[simp] theorem attemptLost_sup : (attemptLost s).sup = s.sup := by
  simp [attemptLost]
@[simp] theorem attemptLost_ros : (attemptLost s).ros = s.ros := by
  simp [attemptLost]
@[simp] theorem attemptLost_dsu : (attemptLost s).dsu = s.dsu := by
  simp [attemptLost]
@[simp] theorem attemptLost_msu : (attemptLost s).msu = s.msu := by
  simp [attemptLost]
@[simp] theorem attemptLost_wch : (attemptLost s).wch = s.wch := by
  simp [attemptLost]
@[simp] theorem attemptLost_shr : (attemptLost s).shr = s.shr := by
  simp [attemptLost]
@[simp] theorem attemptLost_vlv : (attemptLost s).vlv = s.vlv := by
  simp [attemptLost]
@[simp] theorem attemptLost_cap : (attemptLost s).cap = s.cap := by
  simp [attemptLost]
@[simp] theorem attemptLost_svc : (attemptLost s).svc = s.svc := by
  simp [attemptLost]
@[simp] theorem attemptLost_clk : (attemptLost s).clk = s.clk := by
  simp [attemptLost]
@[simp] theorem attemptLost_pending : (attemptLost s).pending = s.pending := by
  simp [attemptLost]

@[simp] theorem attemptBitError_sup : (attemptBitError s).sup = s.sup := by
  simp only [attemptBitError]; split <;> simp
@[simp] theorem attemptBitError_ros : (attemptBitError s).ros = s.ros := by
  simp only [attemptBitError]; split <;> simp
@[simp] theorem attemptBitError_dsu : (attemptBitError s).dsu = s.dsu := by
  simp only [attemptBitError]; split <;> simp
@[simp] theorem attemptBitError_msu : (attemptBitError s).msu = s.msu := by
  simp only [attemptBitError]; split <;> simp
@[simp] theorem attemptBitError_wch : (attemptBitError s).wch = s.wch := by
  simp only [attemptBitError]; split <;> simp
@[simp] theorem attemptBitError_shr : (attemptBitError s).shr = s.shr := by
  simp only [attemptBitError]; split <;> simp
@[simp] theorem attemptBitError_vlv : (attemptBitError s).vlv = s.vlv := by
  simp only [attemptBitError]; split <;> simp
@[simp] theorem attemptBitError_svc : (attemptBitError s).svc = s.svc := by
  simp only [attemptBitError]; split <;> simp
@[simp] theorem attemptBitError_clk : (attemptBitError s).clk = s.clk := by
  simp only [attemptBitError]; split <;> simp
@[simp] theorem attemptBitError_pending : (attemptBitError s).pending = s.pending := by
  simp only [attemptBitError]; split <;> simp

@[simp] theorem attemptComplete_sup (k : TxKind) : (attemptComplete k s).sup = s.sup := by
  simp [attemptComplete]
@[simp] theorem attemptComplete_ros (k : TxKind) : (attemptComplete k s).ros = s.ros := by
  simp [attemptComplete]
@[simp] theorem attemptComplete_dsu (k : TxKind) : (attemptComplete k s).dsu = s.dsu := by
  simp [attemptComplete]
@[simp] theorem attemptComplete_msu (k : TxKind) : (attemptComplete k s).msu = s.msu := by
  simp [attemptComplete]
@[simp] theorem attemptComplete_wch (k : TxKind) : (attemptComplete k s).wch = s.wch := by
  simp [attemptComplete]
@[simp] theorem attemptComplete_shr (k : TxKind) : (attemptComplete k s).shr = s.shr := by
  simp [attemptComplete]
@[simp] theorem attemptComplete_vlv (k : TxKind) : (attemptComplete k s).vlv = s.vlv := by
  simp [attemptComplete]
@[simp] theorem attemptComplete_cap (k : TxKind) : (attemptComplete k s).cap = s.cap := by
  simp [attemptComplete]
@[simp] theorem attemptComplete_svc (k : TxKind) : (attemptComplete k s).svc = s.svc := by
  simp [attemptComplete]
@[simp] theorem attemptComplete_clk (k : TxKind) : (attemptComplete k s).clk = s.clk := by
  simp [attemptComplete]
@[simp] theorem attemptComplete_pending (k : TxKind) : (attemptComplete k s).pending = s.pending := by
  simp [attemptComplete]

@[simp] theorem abandonAttempt_sup : (abandonAttempt s).sup = s.sup := by
  unfold abandonAttempt; split <;> simp
@[simp] theorem abandonAttempt_ros : (abandonAttempt s).ros = s.ros := by
  unfold abandonAttempt; split <;> simp
@[simp] theorem abandonAttempt_dsu : (abandonAttempt s).dsu = s.dsu := by
  unfold abandonAttempt; split <;> simp
@[simp] theorem abandonAttempt_msu : (abandonAttempt s).msu = s.msu := by
  unfold abandonAttempt; split <;> simp
@[simp] theorem abandonAttempt_wch : (abandonAttempt s).wch = s.wch := by
  unfold abandonAttempt; split <;> simp
@[simp] theorem abandonAttempt_shr : (abandonAttempt s).shr = s.shr := by
  unfold abandonAttempt; split <;> simp
@[simp] theorem abandonAttempt_vlv : (abandonAttempt s).vlv = s.vlv := by
  unfold abandonAttempt; split <;> simp
@[simp] theorem abandonAttempt_cap : (abandonAttempt s).cap = s.cap := by
  unfold abandonAttempt; split <;> simp
@[simp] theorem abandonAttempt_svc : (abandonAttempt s).svc = s.svc := by
  unfold abandonAttempt; split <;> simp
@[simp] theorem abandonAttempt_clk : (abandonAttempt s).clk = s.clk := by
  unfold abandonAttempt; split <;> simp
@[simp] theorem abandonAttempt_pending : (abandonAttempt s).pending = s.pending := by
  unfold abandonAttempt; split <;> simp

@[simp] theorem conflictAtLink_sup : (conflictAtLink s).sup = s.sup := by
  simp [conflictAtLink]
@[simp] theorem conflictAtLink_ros : (conflictAtLink s).ros = s.ros := by
  simp [conflictAtLink]
@[simp] theorem conflictAtLink_dsu : (conflictAtLink s).dsu = s.dsu := by
  simp [conflictAtLink]
@[simp] theorem conflictAtLink_msu : (conflictAtLink s).msu = s.msu := by
  simp [conflictAtLink]
@[simp] theorem conflictAtLink_wch : (conflictAtLink s).wch = s.wch := by
  simp [conflictAtLink]
@[simp] theorem conflictAtLink_shr : (conflictAtLink s).shr = s.shr := by
  simp [conflictAtLink]
@[simp] theorem conflictAtLink_vlv : (conflictAtLink s).vlv = s.vlv := by
  simp [conflictAtLink]
@[simp] theorem conflictAtLink_cap : (conflictAtLink s).cap = s.cap := by
  simp [conflictAtLink]
@[simp] theorem conflictAtLink_svc : (conflictAtLink s).svc = s.svc := by
  simp [conflictAtLink]
@[simp] theorem conflictAtLink_clk : (conflictAtLink s).clk = s.clk := by
  simp [conflictAtLink]
@[simp] theorem conflictAtLink_pending : (conflictAtLink s).pending = s.pending := by
  simp [conflictAtLink]

@[simp] theorem enterConflict_ros : (enterConflict s).ros = s.ros := by
  simp [enterConflict]
@[simp] theorem enterConflict_msu : (enterConflict s).msu = s.msu := by
  simp [enterConflict]
@[simp] theorem enterConflict_wch : (enterConflict s).wch = s.wch := by
  simp [enterConflict]
@[simp] theorem enterConflict_shr : (enterConflict s).shr = s.shr := by
  simp [enterConflict]
@[simp] theorem enterConflict_vlv : (enterConflict s).vlv = s.vlv := by
  simp [enterConflict]
@[simp] theorem enterConflict_svc : (enterConflict s).svc = s.svc := by
  simp [enterConflict]
@[simp] theorem enterConflict_clk : (enterConflict s).clk = s.clk := by
  simp [enterConflict]
@[simp] theorem enterConflict_pending : (enterConflict s).pending = s.pending := by
  simp [enterConflict]
@[simp] theorem enterConflict_cfg : (enterConflict s).sup.cfg = s.sup.cfg := by
  simp [enterConflict]
@[simp] theorem enterConflict_ownAddr : (enterConflict s).sup.ownAddr = s.sup.ownAddr := by
  simp [enterConflict]
@[simp] theorem enterConflict_ownSeg : (enterConflict s).sup.ownSeg = s.sup.ownSeg := by
  simp [enterConflict]
@[simp] theorem enterConflict_loading : (enterConflict s).sup.loading = s.sup.loading := by
  simp [enterConflict]

@[simp] theorem conflictReport_ros : (conflictReport s).ros = s.ros := by
  unfold conflictReport; split <;> simp
@[simp] theorem conflictReport_msu : (conflictReport s).msu = s.msu := by
  unfold conflictReport; split <;> simp
@[simp] theorem conflictReport_wch : (conflictReport s).wch = s.wch := by
  unfold conflictReport; split <;> simp
@[simp] theorem conflictReport_shr : (conflictReport s).shr = s.shr := by
  unfold conflictReport; split <;> simp
@[simp] theorem conflictReport_vlv : (conflictReport s).vlv = s.vlv := by
  unfold conflictReport; split <;> simp
@[simp] theorem conflictReport_svc : (conflictReport s).svc = s.svc := by
  unfold conflictReport; split <;> simp
@[simp] theorem conflictReport_clk : (conflictReport s).clk = s.clk := by
  unfold conflictReport; split <;> simp
@[simp] theorem conflictReport_pending : (conflictReport s).pending = s.pending := by
  unfold conflictReport; split <;> simp
@[simp] theorem conflictReport_cfg : (conflictReport s).sup.cfg = s.sup.cfg := by
  unfold conflictReport; split <;> simp
@[simp] theorem conflictReport_ownAddr : (conflictReport s).sup.ownAddr = s.sup.ownAddr := by
  unfold conflictReport; split <;> simp
@[simp] theorem conflictReport_ownSeg : (conflictReport s).sup.ownSeg = s.sup.ownSeg := by
  unfold conflictReport; split <;> simp
@[simp] theorem conflictReport_loading : (conflictReport s).sup.loading = s.sup.loading := by
  unfold conflictReport; split <;> simp

@[simp] theorem sortFrame_msu (f : RxFrame) : (sortFrame f s).msu = s.msu := by
  unfold sortFrame; (repeat' split) <;> simp
@[simp] theorem sortFrame_shr (f : RxFrame) : (sortFrame f s).shr = s.shr := by
  unfold sortFrame; (repeat' split) <;> simp
@[simp] theorem sortFrame_svc (f : RxFrame) : (sortFrame f s).svc = s.svc := by
  unfold sortFrame; (repeat' split) <;> simp
@[simp] theorem sortFrame_clk (f : RxFrame) : (sortFrame f s).clk = s.clk := by
  unfold sortFrame; (repeat' split) <;> simp
@[simp] theorem sortFrame_pending (f : RxFrame) : (sortFrame f s).pending = s.pending := by
  unfold sortFrame; (repeat' split) <;> simp
@[simp] theorem sortFrame_cfg (f : RxFrame) : (sortFrame f s).sup.cfg = s.sup.cfg := by
  unfold sortFrame; (repeat' split) <;> simp
@[simp] theorem sortFrame_ownAddr (f : RxFrame) : (sortFrame f s).sup.ownAddr = s.sup.ownAddr := by
  unfold sortFrame; (repeat' split) <;> simp
@[simp] theorem sortFrame_ownSeg (f : RxFrame) : (sortFrame f s).sup.ownSeg = s.sup.ownSeg := by
  unfold sortFrame; (repeat' split) <;> simp
@[simp] theorem sortFrame_loading (f : RxFrame) : (sortFrame f s).sup.loading = s.sup.loading := by
  unfold sortFrame; (repeat' split) <;> simp

@[simp] theorem handGoodFrame_msu (b : List Byte) : (handGoodFrame b s).msu = s.msu := by
  unfold handGoodFrame; split <;> simp
@[simp] theorem handGoodFrame_shr (b : List Byte) : (handGoodFrame b s).shr = s.shr := by
  unfold handGoodFrame; split <;> simp
@[simp] theorem handGoodFrame_svc (b : List Byte) : (handGoodFrame b s).svc = s.svc := by
  unfold handGoodFrame; split <;> simp
@[simp] theorem handGoodFrame_clk (b : List Byte) : (handGoodFrame b s).clk = s.clk := by
  unfold handGoodFrame; split <;> simp
@[simp] theorem handGoodFrame_pending (b : List Byte) : (handGoodFrame b s).pending = s.pending := by
  unfold handGoodFrame; split <;> simp
@[simp] theorem handGoodFrame_cfg (b : List Byte) : (handGoodFrame b s).sup.cfg = s.sup.cfg := by
  unfold handGoodFrame; split <;> simp
@[simp] theorem handGoodFrame_ownAddr (b : List Byte) : (handGoodFrame b s).sup.ownAddr = s.sup.ownAddr := by
  unfold handGoodFrame; split <;> simp
@[simp] theorem handGoodFrame_ownSeg (b : List Byte) : (handGoodFrame b s).sup.ownSeg = s.sup.ownSeg := by
  unfold handGoodFrame; split <;> simp
@[simp] theorem handGoodFrame_loading (b : List Byte) : (handGoodFrame b s).sup.loading = s.sup.loading := by
  unfold handGoodFrame; split <;> simp

@[simp] theorem startAttempt_sup (ago : Nat) (k : TxKind) : (startAttempt ago k s).sup = s.sup := by
  simp [startAttempt]
@[simp] theorem startAttempt_ros (ago : Nat) (k : TxKind) : (startAttempt ago k s).ros = s.ros := by
  simp [startAttempt]
@[simp] theorem startAttempt_dsu (ago : Nat) (k : TxKind) : (startAttempt ago k s).dsu = s.dsu := by
  simp [startAttempt]
@[simp] theorem startAttempt_msu (ago : Nat) (k : TxKind) : (startAttempt ago k s).msu = s.msu := by
  simp [startAttempt]
@[simp] theorem startAttempt_wch (ago : Nat) (k : TxKind) : (startAttempt ago k s).wch = s.wch := by
  simp [startAttempt]
@[simp] theorem startAttempt_shr (ago : Nat) (k : TxKind) : (startAttempt ago k s).shr = s.shr := by
  simp [startAttempt]
@[simp] theorem startAttempt_vlv (ago : Nat) (k : TxKind) : (startAttempt ago k s).vlv = s.vlv := by
  simp [startAttempt]
@[simp] theorem startAttempt_cap (ago : Nat) (k : TxKind) : (startAttempt ago k s).cap = s.cap := by
  simp [startAttempt]
@[simp] theorem startAttempt_svc (ago : Nat) (k : TxKind) : (startAttempt ago k s).svc = s.svc := by
  simp [startAttempt]
@[simp] theorem startAttempt_clk (ago : Nat) (k : TxKind) : (startAttempt ago k s).clk = s.clk := by
  simp [startAttempt]
@[simp] theorem startAttempt_pending (ago : Nat) (k : TxKind) : (startAttempt ago k s).pending = s.pending := by
  simp [startAttempt]

@[simp] theorem startReceiving_sup (ago : Nat) : (startReceiving ago s).sup = s.sup := by
  simp [startReceiving]
@[simp] theorem startReceiving_ros (ago : Nat) : (startReceiving ago s).ros = s.ros := by
  simp [startReceiving]
@[simp] theorem startReceiving_dsu (ago : Nat) : (startReceiving ago s).dsu = s.dsu := by
  simp [startReceiving]
@[simp] theorem startReceiving_msu (ago : Nat) : (startReceiving ago s).msu = s.msu := by
  simp [startReceiving]
@[simp] theorem startReceiving_wch (ago : Nat) : (startReceiving ago s).wch = s.wch := by
  simp [startReceiving]
@[simp] theorem startReceiving_shr (ago : Nat) : (startReceiving ago s).shr = s.shr := by
  simp [startReceiving]
@[simp] theorem startReceiving_vlv (ago : Nat) : (startReceiving ago s).vlv = s.vlv := by
  simp [startReceiving]
@[simp] theorem startReceiving_cap (ago : Nat) : (startReceiving ago s).cap = s.cap := by
  simp [startReceiving]
@[simp] theorem startReceiving_svc (ago : Nat) : (startReceiving ago s).svc = s.svc := by
  simp [startReceiving]
@[simp] theorem startReceiving_clk (ago : Nat) : (startReceiving ago s).clk = s.clk := by
  simp [startReceiving]
@[simp] theorem startReceiving_pending (ago : Nat) : (startReceiving ago s).pending = s.pending := by
  simp [startReceiving]

@[simp] theorem startEdgeTaken_sup (ago : Nat) : (startEdgeTaken ago s).sup = s.sup := by
  unfold startEdgeTaken; split <;> simp
@[simp] theorem startEdgeTaken_ros (ago : Nat) : (startEdgeTaken ago s).ros = s.ros := by
  unfold startEdgeTaken; split <;> simp
@[simp] theorem startEdgeTaken_dsu (ago : Nat) : (startEdgeTaken ago s).dsu = s.dsu := by
  unfold startEdgeTaken; split <;> simp
@[simp] theorem startEdgeTaken_msu (ago : Nat) : (startEdgeTaken ago s).msu = s.msu := by
  unfold startEdgeTaken; split <;> simp
@[simp] theorem startEdgeTaken_wch (ago : Nat) : (startEdgeTaken ago s).wch = s.wch := by
  unfold startEdgeTaken; split <;> simp
@[simp] theorem startEdgeTaken_shr (ago : Nat) : (startEdgeTaken ago s).shr = s.shr := by
  unfold startEdgeTaken; split <;> simp
@[simp] theorem startEdgeTaken_vlv (ago : Nat) : (startEdgeTaken ago s).vlv = s.vlv := by
  unfold startEdgeTaken; split <;> simp
@[simp] theorem startEdgeTaken_cap (ago : Nat) : (startEdgeTaken ago s).cap = s.cap := by
  unfold startEdgeTaken; split <;> simp
@[simp] theorem startEdgeTaken_svc (ago : Nat) : (startEdgeTaken ago s).svc = s.svc := by
  unfold startEdgeTaken; split <;> simp
@[simp] theorem startEdgeTaken_clk (ago : Nat) : (startEdgeTaken ago s).clk = s.clk := by
  unfold startEdgeTaken; split <;> simp
@[simp] theorem startEdgeTaken_pending (ago : Nat) : (startEdgeTaken ago s).pending = s.pending := by
  unfold startEdgeTaken; split <;> simp

@[simp] theorem endFrame_msu (c : Byte) (b : List Byte) : (endFrame c b s).msu = s.msu := by
  unfold endFrame; split <;> simp
@[simp] theorem endFrame_shr (c : Byte) (b : List Byte) : (endFrame c b s).shr = s.shr := by
  unfold endFrame; split <;> simp
@[simp] theorem endFrame_svc (c : Byte) (b : List Byte) : (endFrame c b s).svc = s.svc := by
  unfold endFrame; split <;> simp
@[simp] theorem endFrame_clk (c : Byte) (b : List Byte) : (endFrame c b s).clk = s.clk := by
  unfold endFrame; split <;> simp
@[simp] theorem endFrame_pending (c : Byte) (b : List Byte) : (endFrame c b s).pending = s.pending := by
  unfold endFrame; split <;> simp
@[simp] theorem endFrame_cfg (c : Byte) (b : List Byte) : (endFrame c b s).sup.cfg = s.sup.cfg := by
  unfold endFrame; split <;> simp
@[simp] theorem endFrame_ownAddr (c : Byte) (b : List Byte) : (endFrame c b s).sup.ownAddr = s.sup.ownAddr := by
  unfold endFrame; split <;> simp
@[simp] theorem endFrame_ownSeg (c : Byte) (b : List Byte) : (endFrame c b s).sup.ownSeg = s.sup.ownSeg := by
  unfold endFrame; split <;> simp
@[simp] theorem endFrame_loading (c : Byte) (b : List Byte) : (endFrame c b s).sup.loading = s.sup.loading := by
  unfold endFrame; split <;> simp

@[simp] theorem takeBit_msu (b : Bool) : (takeBit b s).msu = s.msu := by
  simp only [takeBit]; (repeat' split) <;> simp
@[simp] theorem takeBit_shr (b : Bool) : (takeBit b s).shr = s.shr := by
  simp only [takeBit]; (repeat' split) <;> simp
@[simp] theorem takeBit_svc (b : Bool) : (takeBit b s).svc = s.svc := by
  simp only [takeBit]; (repeat' split) <;> simp
@[simp] theorem takeBit_clk (b : Bool) : (takeBit b s).clk = s.clk := by
  simp only [takeBit]; (repeat' split) <;> simp
@[simp] theorem takeBit_pending (b : Bool) : (takeBit b s).pending = s.pending := by
  simp only [takeBit]; (repeat' split) <;> simp
@[simp] theorem takeBit_cfg (b : Bool) : (takeBit b s).sup.cfg = s.sup.cfg := by
  simp only [takeBit]; (repeat' split) <;> simp
@[simp] theorem takeBit_ownAddr (b : Bool) : (takeBit b s).sup.ownAddr = s.sup.ownAddr := by
  simp only [takeBit]; (repeat' split) <;> simp
@[simp] theorem takeBit_ownSeg (b : Bool) : (takeBit b s).sup.ownSeg = s.sup.ownSeg := by
  simp only [takeBit]; (repeat' split) <;> simp
@[simp] theorem takeBit_loading (b : Bool) : (takeBit b s).sup.loading = s.sup.loading := by
  simp only [takeBit]; (repeat' split) <;> simp

@[simp] theorem sampleCell_msu : (sampleCell s).msu = s.msu := by
  simp only [sampleCell]; (repeat' split) <;> simp
@[simp] theorem sampleCell_shr : (sampleCell s).shr = s.shr := by
  simp only [sampleCell]; (repeat' split) <;> simp
@[simp] theorem sampleCell_svc : (sampleCell s).svc = s.svc := by
  simp only [sampleCell]; (repeat' split) <;> simp
@[simp] theorem sampleCell_clk : (sampleCell s).clk = s.clk := by
  simp only [sampleCell]; (repeat' split) <;> simp
@[simp] theorem sampleCell_pending : (sampleCell s).pending = s.pending := by
  simp only [sampleCell]; (repeat' split) <;> simp
@[simp] theorem sampleCell_cfg : (sampleCell s).sup.cfg = s.sup.cfg := by
  simp only [sampleCell]; (repeat' split) <;> simp
@[simp] theorem sampleCell_ownAddr : (sampleCell s).sup.ownAddr = s.sup.ownAddr := by
  simp only [sampleCell]; (repeat' split) <;> simp
@[simp] theorem sampleCell_ownSeg : (sampleCell s).sup.ownSeg = s.sup.ownSeg := by
  simp only [sampleCell]; (repeat' split) <;> simp
@[simp] theorem sampleCell_loading : (sampleCell s).sup.loading = s.sup.loading := by
  simp only [sampleCell]; (repeat' split) <;> simp

end Sys2Proof.Machine
end

