-- ==== Sys2Proof/Laws/Ops.lean ====
section
/-! SUPPORT. What each shared operation does, once: with Laws/Frames.lean, which says what it leaves alone, the lemmas here give every
block after the operation, so that no later proof need unfold it. -/

namespace Sys2Proof.Machine

variable (s : State)

/-! ## Flags -/

@[simp] theorem reevalSensorFault_sup : (reevalSensorFault s).sup = { s.sup with sensorFault := sensorFaultNow s } := rfl
@[simp] theorem setWatchFired_sup : (setWatchFired s).sup = { s.sup with watchFired := true } := rfl
@[simp] theorem reevalWatchFired_sup :
    (reevalWatchFired s).sup = { s.sup with watchFired := s.sup.watchFired && anyFired s } := rfl
@[simp] theorem updateAttn_svc : (updateAttn s).svc = { s.svc with attn := attnNow s } := rfl

/-- Every unit number stands in the list of all of them. -/
theorem mem_allUnits (u : Fin 8) : u ∈ allUnits := by revert u; decide

/-- Some unit is FIRED exactly when one of the eight has the state FIRED. -/
theorem anyFired_iff : anyFired s = true ↔ ∃ u : Fin 8, s.wch.units[u].status = .fired := by
  simp only [anyFired, List.any_eq_true, isFired, decide_eq_true_eq]
  constructor
  · rintro ⟨u, -, h⟩; exact ⟨u, h⟩
  · rintro ⟨u, h⟩; exact ⟨u, mem_allUnits u, h⟩

/-! ## Capture history -/

/-- A frozen capture takes no record. -/
theorem appendRecord_frozen (r : Record) (c : Capture) (h : c.frozen = true) : appendRecord r c = c := by
  simp [appendRecord, h]

/-- A running capture appends the record, dropping the oldest at 256. -/
theorem appendRecord_running (r : Record) (c : Capture) (h : c.frozen = false) :
    appendRecord r c = { c with ring := (if c.ring.length < 256 then c.ring else c.ring.tail) ++ [r] } := by
  unfold appendRecord; split
  · simp_all
  · split <;> simp_all

/-- A record handed over changes the ring only. -/
theorem appendRecord_keeps (r : Record) (c : Capture) :
    (appendRecord r c).frozen = c.frozen ∧ (appendRecord r c).reason = c.reason ∧ (appendRecord r c).unit = c.unit ∧
      (appendRecord r c).time = c.time ∧ (appendRecord r c).count = c.count := by
  unfold appendRecord; split <;> simp

/-- A record handed over leaves at most 256 records. -/
theorem appendRecord_length (r : Record) (c : Capture) (h : c.ring.length ≤ 256) : (appendRecord r c).ring.length ≤ 256 := by
  unfold appendRecord; split
  · exact h
  · split <;> simp <;> omega

@[simp] theorem handRecord_cap (b : RecordBody) :
    (handRecord b s).cap = appendRecord { time := s.clk.ms, body := b } s.cap := rfl
@[simp] theorem handEvent_cap (e : CaptureEvent) :
    (handEvent e s).cap = appendRecord { time := s.clk.ms, body := .event e } s.cap := rfl

/-- A freeze request: nothing in FROZEN; in RUNNING the reason, unit and time. -/
theorem requestFreeze_cap (r : FreezeReason) (u : Option (Fin 8)) :
    (requestFreeze r u s).cap =
      if s.cap.frozen then s.cap else { s.cap with frozen := true, reason := r, unit := u, time := some s.clk.ms } := rfl

/-! ## Link controller -/

@[simp] theorem setStatusPending_lnk :
    (setStatusPending s).lnk =
      { s.lnk with statusPending := true, renewed := s.lnk.renewed || statusInFlight s } := rfl

/-- A queue that has taken a frame holds at most 4. -/
theorem enqueueFrame_length (f : EventFrame) (q : List EventFrame) : (enqueueFrame f q).length ≤ 4 := by
  unfold enqueueFrame; split
  · simp; omega
  · simp

/-- The head of a queue that is not empty stays. -/
theorem enqueueFrame_head (f g : EventFrame) (q : List EventFrame) : ∃ q', enqueueFrame f (g :: q) = g :: q' := by
  unfold enqueueFrame; split <;> simp

@[simp] theorem queueEvent_lnk (f : EventFrame) :
    (queueEvent f s).lnk = { s.lnk with queue := enqueueFrame f s.lnk.queue } := rfl
@[simp] theorem queueDrip_lnk (v : Severity) :
    (queueDrip v s).lnk =
      { s.lnk with queue := enqueueFrame (.drip (ownSegment s) v (zoneMask s) (unitMask s)) s.lnk.queue } := rfl

/-! ## Valve drive -/

@[simp] theorem enterValve_vlv (v : ValveState) : (enterValve v s).vlv = { s.vlv with valve := v } := rfl
@[simp] theorem enterValve_cap (v : ValveState) :
    (enterValve v s).cap = appendRecord { time := s.clk.ms, body := .event (.valve v) } s.cap := rfl
@[simp] theorem startOpening_vlv :
    (startOpening s).vlv =
      { s.vlv with valve := .opening, pendingDuty := 0, pullIn := some (msec s.sup.cfg.pullInTime), returnDrive := .full } := rfl
@[simp] theorem startOpening_cap :
    (startOpening s).cap = appendRecord { time := s.clk.ms, body := .event (.valve .opening) } s.cap := rfl
@[simp] theorem startClosing_vlv :
    (startClosing s).vlv =
      { s.vlv with valve := .closing, applied := 0, pendingDuty := 0, pullIn := none, returnDrive := .off,
                   stroke := some (msec s.sup.cfg.strokeTime) } := rfl
@[simp] theorem startClosing_cap :
    (startClosing s).cap = appendRecord { time := s.clk.ms, body := .event (.valve .closing) } s.cap := rfl

/-- An OPEN request, by valve state. -/
theorem openRequest_cases :
    (s.vlv.valve = .closed ∨ s.vlv.valve = .stuck) ∧ openRequest s = startOpening s ∨
    (s.vlv.valve = .opening ∨ s.vlv.valve = .opened) ∧ openRequest s = s ∨
    s.vlv.valve = .closing ∧ openRequest s = s.mapVlv fun d => { d with reopen := true } := by
  unfold openRequest; split <;> simp_all

/-- A CLOSE request, by valve state. -/
theorem closeRequest_cases :
    (s.vlv.valve = .closed ∨ s.vlv.valve = .stuck) ∧ closeRequest s = s ∨
    (s.vlv.valve = .opening ∨ s.vlv.valve = .opened) ∧ closeRequest s = startClosing s ∨
    s.vlv.valve = .closing ∧ closeRequest s = s.mapVlv fun d => { d with reopen := false } := by
  unfold closeRequest; split <;> simp_all

/-! ## Drip sensing unit -/

@[simp] theorem urgentTrigger_dsu :
    (urgentTrigger s).dsu = if s.dsu.scan = .idle then beginScan s.dsu else { s.dsu with rescan := true } := rfl
@[simp] theorem timerTrigger_dsu :
    (timerTrigger s).dsu = if s.dsu.scan = .idle then beginScan s.dsu else s.dsu := rfl
@[simp] theorem startScanTimer_dsu :
    (startScanTimer s).dsu =
      { s.dsu with scanTimer := some (s.dsu.scanTimer.getD (msec s.sup.cfg.scanPeriod)) } := rfl
@[simp] theorem abortScan_dsu :
    (abortScan s).dsu =
      { restoreBefore s.dsu with scan := .idle, rescan := false, scanTimer := none, counter := none, timeBase := none } := rfl

/-- An aborted scan leaves SENSOR_FAULT as its conditions give it afterwards. -/
@[simp] theorem abortScan_sup : (abortScan s).sup = { s.sup with sensorFault := sensorFaultNow (abortScan s) } := rfl

/-- With no scan in progress there is nothing to bring back. -/
theorem restoreBefore_idle (d : DripUnit) (h : d.scan = .idle) : restoreBefore d = d := by simp [restoreBefore, h]

/-- During a scan the values from before it come back. -/
theorem restoreBefore_scanning (d : DripUnit) (h : d.scan ≠ .idle) :
    restoreBefore d = { d with tref := d.trefBefore, refFaults := d.refFaultsBefore } := by simp [restoreBefore, h]

/-! ## Station mode -/

@[simp] theorem announceOnEntry_lnk (o m : Mode) :
    (announceOnEntry o m s).lnk =
      { s.lnk with announce :=
          if isSending m then (if isSending o then s.lnk.announce else some (msec s.sup.cfg.pAnn)) else none } := rfl

/-- The scan timer on entry to a mode: started where it is stopped, in the sending modes and CONFLICT; stopped in PARKED. -/
theorem scanTimerOnEntry_dsu (m : Mode) :
    (scanTimerOnEntry m s).dsu =
      if isSending m = true ∨ m = .conflict then
        { s.dsu with scanTimer := some (s.dsu.scanTimer.getD (msec s.sup.cfg.scanPeriod)) }
      else if m = .parked then { s.dsu with scanTimer := none } else s.dsu := by
  cases m <;> simp [scanTimerOnEntry, isSending]

@[simp] theorem changeMode_sup (m : Mode) : (changeMode m s).sup = { s.sup with mode := m } := by
  simp only [changeMode, scanTimerOnEntry_sup, announceOnEntry_sup]; split <;> simp

@[simp] theorem changeMode_mode (m : Mode) : (changeMode m s).sup.mode = m := by simp

@[simp] theorem changeMode_cap (m : Mode) :
    (changeMode m s).cap = appendRecord { time := s.clk.ms, body := .event (.mode m) } s.cap := by
  simp only [changeMode, scanTimerOnEntry_cap, announceOnEntry_cap]; split <;> simp

/-- The link controller after a change of mode: status-pending in a sending mode, and the announce timer. -/
theorem changeMode_lnk (m : Mode) :
    (changeMode m s).lnk =
      if isSending m = true then
        { s.lnk with
          statusPending := true
          renewed := s.lnk.renewed || statusInFlight s
          announce := if isSending s.sup.mode then s.lnk.announce else some (msec s.sup.cfg.pAnn) }
      else { s.lnk with announce := none } := by
  simp only [changeMode, scanTimerOnEntry_lnk, announceOnEntry_lnk]
  split <;> simp [*, statusInFlight]

/-- The drip sensing unit after a change of mode: its scan timer. -/
theorem changeMode_dsu (m : Mode) :
    (changeMode m s).dsu =
      if isSending m = true ∨ m = .conflict then
        { s.dsu with scanTimer := some (s.dsu.scanTimer.getD (msec s.sup.cfg.scanPeriod)) }
      else if m = .parked then { s.dsu with scanTimer := none } else s.dsu := by
  cases m <;> simp [changeMode, scanTimerOnEntry_dsu, isSending]

/-- The containment evaluation changes nothing, or takes ACTIVE to CONTAINED at the quorum, or CONTAINED to ACTIVE below it. -/
theorem evalContainment_cases :
    evalContainment s = s ∧
        (s.sup.cfg.quorum = 0 ∨ (s.sup.mode = .active ∧ isolationCount s < s.sup.cfg.quorum) ∨
          (s.sup.mode = .contained ∧ s.sup.cfg.quorum ≤ isolationCount s) ∨
          (s.sup.mode ≠ .active ∧ s.sup.mode ≠ .contained)) ∨
    evalContainment s = changeMode .contained s ∧
        1 ≤ s.sup.cfg.quorum ∧ s.sup.mode = .active ∧ s.sup.cfg.quorum ≤ isolationCount s ∨
    evalContainment s = changeMode .active s ∧
        1 ≤ s.sup.cfg.quorum ∧ s.sup.mode = .contained ∧ isolationCount s < s.sup.cfg.quorum := by
  unfold evalContainment
  (repeat' split) <;> simp_all <;> omega

/-- An ISOLATE action at the supervisor, by mode. -/
theorem isolateAction_cases :
    (s.sup.mode = .active ∨ s.sup.mode = .contained) ∧ isolateAction s = enterIsolated s ∨
    s.sup.mode = .joining ∧ isolateAction s = enterIsolated (failJoin s) ∨
    s.sup.mode = .isolated ∧ isolateAction s = queueDrip .isolate (closeRequest s) ∨
    s.sup.mode = .conflict ∧ isolateAction s = closeRequest s ∨
    (s.sup.mode = .starting ∨ s.sup.mode = .parked) ∧ isolateAction s = s := by
  unfold isolateAction; split <;> simp_all

/-- An entry to ISOLATED ends there: the evaluation that follows moves ACTIVE and CONTAINED only. -/
@[simp] theorem enterIsolated_mode : (enterIsolated s).sup.mode = .isolated := by
  unfold enterIsolated
  rcases evalContainment_cases (queueDrip .isolate (closeRequest (changeMode .isolated s))) with h | h | h
  · rw [h.1]; simp
  · simp at h
  · simp at h

/-- Going to ACTIVE ends in ACTIVE, or in CONTAINED at the quorum. -/
theorem goActive_mode :
    (goActive s).sup.mode =
      if 1 ≤ s.sup.cfg.quorum ∧ s.sup.cfg.quorum ≤ isolationCount s then .contained else .active := by
  have hc : isolationCount (changeMode .active s) = isolationCount s := by simp [isolationCount]
  unfold goActive
  rcases evalContainment_cases (changeMode .active s) with h | h | h <;> rw [h.1] <;> (simp_all <;> omega)

@[simp] theorem enterJoining_mode : (enterJoining s).sup.mode = .joining := by simp [enterJoining]

/-! ## Watch engine -/

@[simp] theorem mapUnit_same (u : Fin 8) (f : WatchUnit → WatchUnit) : (mapUnit u f s).wch.units[u.val] = f s.wch.units[u.val] := by
  simp [mapUnit]

theorem mapUnit_other (u v : Fin 8) (f : WatchUnit → WatchUnit) (h : u ≠ v) :
    (mapUnit u f s).wch.units[v.val] = s.wch.units[v.val] := by
  have : u.val ≠ v.val := fun e => h (Fin.ext e)
  simp [mapUnit, this]

/-- What an arming event makes of a unit, by its state. -/
theorem armUnit_cases (c : UnitConfig) (w : WatchUnit) :
    w.status = .disarmed ∧ armUnit c w = { w with status := .armed, count := 0, window := freshWindow c } ∨
    w.status = .armed ∧ armUnit c w = { w with window := if c.window = 0 then w.window else freshWindow c } ∨
    w.status = .fired ∧ armUnit c w = w := by
  unfold armUnit; split <;> simp_all

/-- A unit that fires is FIRED with its counter at N. -/
theorem markFired_same (u : Fin 8) :
    (markFired u s).wch.units[u.val] =
      { s.wch.units[u.val] with status := .fired, count := s.sup.cfg.units[u.val].countN, clear := 0, window := none } := by
  simp [markFired]

/-- A unit that leaves FIRED takes the state of its arming with its counters at 0. -/
theorem leaveFired_same (u : Fin 8) :
    (leaveFired u s).wch.units[u.val] =
      { s.wch.units[u.val] with
        status := if s.sup.cfg.units[u.val].arming = .always then .armed else .disarmed
        count := 0, clear := 0, window := none } := by
  simp [leaveFired]

/-! ## Share computer and valve drive -/

@[simp] theorem parkShare_shr :
    (parkShare s).shr = { s.shr with grant := 0, baseDuty := 0, trim := 0, duty := 0 } := rfl

/-- A duty is pending in OPENING and OPEN, and ignored elsewhere. -/
theorem receiveDuty_vlv (d : Nat) :
    (receiveDuty d s).vlv =
      if s.vlv.valve = .opening ∨ s.vlv.valve = .opened then { s.vlv with pendingDuty := d } else s.vlv := by
  unfold receiveDuty; split <;> simp_all

/-- A value held in a range lies in it. -/
theorem clampInt_bounds (x a b : Int) (h : a ≤ b) : a ≤ clampInt x a b ∧ clampInt x a b ≤ b := by
  unfold clampInt; split
  · exact ⟨le_refl _, h⟩
  · split <;> constructor <;> omega

/-- A value in the range is itself. -/
theorem clampInt_of_mem (x a b : Int) (h1 : a ≤ x) (h2 : x ≤ b) : clampInt x a b = x := by
  unfold clampInt; split
  · omega
  · split <;> omega

/-- The duty never exceeds 1023. -/
theorem dutyOf_le (g b : Nat) (t : Int) : dutyOf g b t ≤ 1023 := by
  unfold dutyOf; split
  · omega
  · have := clampInt_bounds ((b : Int) + t) 0 1023 (by omega)
    omega

/-! ## Row line and link -/

@[simp] theorem receptionError_lnk (e : LinkError) :
    (receptionError e s).lnk = { s.lnk with lastError := e, renewed := false, link := linkAfterFrame s.lnk.link } := rfl
@[simp] theorem receptionError_rli (e : LinkError) : (receptionError e s).rli = toSeekQuiet s.rli := rfl
@[simp] theorem attemptLost_rli : (attemptLost s).rli = { s.rli with tx := none } := rfl
@[simp] theorem attemptLost_lnk : (attemptLost s).lnk = { s.lnk with link := .receiving, renewed := false } := rfl
@[simp] theorem attemptBitError_rli : (attemptBitError s).rli = toSeekQuiet s.rli := by
  simp only [attemptBitError]; split <;> simp
@[simp] theorem attemptComplete_rli (k : TxKind) : (attemptComplete k s).rli = toSeekQuiet s.rli := rfl
@[simp] theorem toSeekQuiet_rx (r : RowLine) : (toSeekQuiet r).rx = .seekQuiet := rfl
@[simp] theorem toSeekQuiet_tx (r : RowLine) : (toSeekQuiet r).tx = none := rfl

/-- With the filter on a change of level is taken 2 µs after its first moment. -/
theorem filterDelay_on (c : ConfigSet) (h : c.rxFilter = true) : filterDelay c = 2 := by simp [filterDelay, h]

/-- With the filter off a change of level is taken as it comes. -/
theorem filterDelay_off (c : ConfigSet) (h : c.rxFilter = false) : filterDelay c = 0 := by simp [filterDelay, h]

/-- A level is taken unless the filter is on and the level holds for less than 2 µs. -/
theorem edgeTaken_iff (c : ConfigSet) (held : Nat) : edgeTaken c held = true ↔ (c.rxFilter = true → 2 ≤ held) := by
  cases h : c.rxFilter <;> simp [edgeTaken, filterDelay, h]

/-- Which falls on a low line are taken: those that came before a young own edge. -/
theorem ownEdgeYounger_iff : ownEdgeYounger (filterDelay s.sup.cfg) s.rli = true ↔ Safety.OwnEdgeYoung s := by
  unfold ownEdgeYounger Safety.OwnEdgeYoung
  cases h : s.sup.cfg.rxFilter
  · simp [filterDelay_off _ h]
  · cases hc : s.rli.cell <;> cases hl : s.rli.lowTime <;> simp [filterDelay_on _ h, and_assoc]

/-- The station's own edge takes a high line low. -/
theorem ownEdge_high (r : RowLine) (h : r.lineLow = false) : ownEdge r = takeFall 0 r := by simp [ownEdge, h]

/-- The station's own edge is no falling edge on a line already low. -/
theorem ownEdge_low (r : RowLine) (h : r.lineLow = true) : ownEdge r = r := by simp [ownEdge, h]

/-! ## Time -/

/-- Everything an empty queue can lead to: nothing with RESET low; the first due event queued; an offer started; one tick. -/
theorem idle_cases :
    s.clk.held = true ∧ idle s = s ∨
    s.clk.held = false ∧ (∃ e es, dueEvents s = e :: es ∧ idle s = { s with pending := [e] }) ∨
    s.clk.held = false ∧ dueEvents s = [] ∧ (s.rli.rx = .idle ∧ (standingOffer s).isSome = true) ∧
      idle s = { s with pending := [.attemptStart] } ∨
    s.clk.held = false ∧ dueEvents s = [] ∧ ¬(s.rli.rx = .idle ∧ (standingOffer s).isSome = true) ∧
      idle s = passTime s := by
  unfold idle
  split
  · exact .inl ⟨‹_›, rfl⟩
  · rename_i hh
    have hf : s.clk.held = false := by simpa using hh
    split
    · exact .inr (.inl ⟨hf, _, _, ‹_›, rfl⟩)
    · split
      · exact .inr (.inr (.inl ⟨hf, ‹_›, ‹_›, rfl⟩))
      · exact .inr (.inr (.inr ⟨hf, ‹_›, ‹_›, rfl⟩))

@[simp] theorem takeRise_eq (ago : Nat) (r : RowLine) :
    takeRise ago r = { r with lineLow := false, lowTime := none, quiet := quietAtRise ago r.quiet } := rfl

/-- After a rise no quiet timer waits for one. -/
theorem quietAtRise_ne_awaitRise (ago : Nat) (q : QuietTimer) : quietAtRise ago q ≠ .awaitRise := by
  unfold quietAtRise; split <;> simp_all

/-- What a sample point of the current cell finds: an edge of the line only where the level differs. -/
theorem sampledLine_current (low : Bool) (r : RowLine) : sampledLine true low r = setLevel low r := rfl

/-- What the sample point of a later cell finds: quiet counted from that cell's edge, and the low-time measure too on a low line. -/
theorem sampledLine_later (low : Bool) (r : RowLine) :
    sampledLine false low r =
      { r with lineLow := low, lowTime := if low then some 10 else none, quiet := .running 10 } := by
  cases low <;> rfl

/-- A header data cell is no BIT_ERROR's cell where it samples 0: that is a lost arbitration (R36, R37). -/
theorem bitErrorHere_arbitration (t : TxFrame) (r : RowLine) (h : isArbitrationCell r.frame.taken.length r.frame.cells = true) :
    bitErrorHere t false r = false := by
  simp [bitErrorHere, h]

/-- No sample point leaves a high line with a quiet timer that waits for its rise. -/
theorem sampledLine_awaitRise (current low : Bool) (r : RowLine) (h : r.quiet = .awaitRise → r.lineLow = true)
    (ha : (sampledLine current low r).quiet = .awaitRise) : (sampledLine current low r).lineLow = true := by
  cases current
  · simp [sampledLine_later] at ha
  · rw [sampledLine_current] at ha ⊢
    cases low
    · cases hl : r.lineLow <;> simp_all [setLevel, quietAtRise]
      split at ha <;> simp_all
    · rfl

/-- The transfer of a 222-byte image is 225 bytes, and the image is what it brings (R2). -/
theorem loadTransfer_length (image : List Byte) (h : image.length = 222) : (loadTransfer image).length = 225 := by
  simp [loadTransfer, loadHeader, h]

@[simp] theorem imageTaken_loadTransfer (image : List Byte) : imageTaken (loadTransfer image) = image := by
  simp [imageTaken, loadTransfer, loadHeader, List.filterMap_map]

/-- An event stands in the list of one that may be due exactly when it is that event and is due. -/
@[simp] theorem mem_dueWhen (b : Bool) (i e : Instr) : e ∈ dueWhen b i ↔ b = true ∧ e = i := by
  unfold dueWhen; split <;> simp [*]

/-! ## The change notice -/

/-- The containment count is read from the roster and the own segment, which no notice changes. -/
theorem changeNotice_isolationCount : isolationCount (changeNotice s) = isolationCount s := by
  rcases evalContainment_cases s with h | h | h <;> simp [changeNotice, h.1, isolationCount]

/-- A change of mode between ACTIVE and CONTAINED, whole (R7, R42, R85). -/
theorem changeMode_between (m : Mode) (hm : m = .active ∨ m = .contained)
    (hs : s.sup.mode = .active ∨ s.sup.mode = .contained) :
    changeMode m s =
      { s with
        sup := { s.sup with mode := m }
        lnk := { s.lnk with statusPending := true, renewed := s.lnk.renewed || statusInFlight s }
        dsu := { s.dsu with scanTimer := some (s.dsu.scanTimer.getD (1000 * s.sup.cfg.scanPeriod)) }
        cap := appendRecord { time := s.clk.ms, body := .event (.mode m) } s.cap } := by
  rcases hm with rfl | rfl <;> rcases hs with h | h <;>
    (simp only [changeMode, isSending, announceOnEntry, h]; rfl)

/-- A change notice leaves what NoticeTaken says: the containment count of the roster moves ACTIVE and CONTAINED, and nothing else
(R72, R13, R7). -/
theorem changeNotice_taken : Safety.NoticeTaken s (changeNotice s) True := by
  have count := changeNotice_isolationCount s
  unfold Safety.NoticeTaken
  rw [count]
  rcases evalContainment_cases s with h | h | h
  · have e : changeNotice s = s := h.1
    rw [e]
    refine ⟨by simp, fun _ => rfl, fun _ => ⟨fun _ _ => rfl, fun hm hq => ?_, fun _ => rfl⟩⟩
    rcases h.2 with hz | ⟨ha, hlt⟩ | ⟨hc, hle⟩ | ⟨hna, hnc⟩
    · exact absurd hz hq
    · rw [ha, if_neg (by omega)]
    · rw [hc, if_pos hle]
    · simp_all
  · obtain ⟨hn, hq, hm, hc⟩ := h
    have e := hn.trans (changeMode_between s .contained (.inr rfl) (.inl hm))
    rw [show changeNotice s = evalContainment s from rfl, e]
    simp [hm, hc, Nat.one_le_iff_ne_zero.mp hq]
  · obtain ⟨hn, hq, hm, hc⟩ := h
    have e := hn.trans (changeMode_between s .active (.inl rfl) (.inr hm))
    rw [show changeNotice s = evalContainment s from rfl, e]
    simp [hm, Nat.not_le.mpr hc, Nat.one_le_iff_ne_zero.mp hq]

end Sys2Proof.Machine
end

