-- ==== Sys2Proof/Tests/Slice0.lean ====
section
/-! SUPPORT. The model's own tests: what WellFormed refuses, figures worked in the manual, at most two small tests of one step per
command, and for each statement of Obligations.lean with hypotheses a theorem `witness_…` that shows a state and operands meeting them.
Each expected value is the manual's (the comment names its place) or is worked by hand from the rule named. -/

namespace Sys2Proof.Tests

set_option Elab.async false

open Sys2Proof.Machine Sys2Proof.Safety

/-! ## Helpers -/

/-- A field of the state an outcome leads to. -/
def seen {α : Type} (f : State → α) (o : Host.Outcome State Fault Refusal) : Option α :=
  match o with
  | .next t => some (f t)
  | .fault _ => none
  | .refused _ => none

/-- Station 9 of segment 2, ACTIVE on an idle line, with the default configuration set. -/
def up : State :=
  { State.reset with
    sup := { State.reset.sup with mode := .active, dryCheck := .passed, ownAddr := some 9, ownSeg := some 2 }
    rli := { State.reset.rli with rx := .idle, quiet := .running 160 }
    lnk := { State.reset.lnk with link := .idle, announce := some 250000 }
    dsu := { State.reset.dsu with scanTimer := some 1000000 }
    msu := { State.reset.msu with acqTimer := some 50000 }
    clk := { held := false, ms := 600, us := 0 } }

/-- `up` in another mode. -/
def inMode (m : Mode) : State := { up with sup := { up.sup with mode := m } }

/-- Station 9 in JOINING with the dry check and the join timer as given, the first scan in its reference phase. -/
def joiningState (d : DryCheck) (timer : Option Nat) : State :=
  { up with
    sup := { up.sup with mode := .joining, dryCheck := d, joinTimer := timer, joinExpired := timer.isNone }
    lnk := { up.lnk with announce := none }
    dsu := { State.reset.dsu with scan := .reference, scanNumber := 1, counter := some 0, timeBase := some 0 } }

/-- Station 9 in STARTING with the load in progress. -/
def loadingState : State :=
  { State.reset with
    sup := { State.reset.sup with ownAddr := some 9, ownSeg := some 2, loading := true }
    clk := { held := false, ms := 1, us := 800 } }

/-- A roster entry of segment 2, LIVE, with the default announce period. -/
def entryOf (a : Address) (m : PeerMode) (d : Nat) : Entry :=
  { address := a, segment := 2, mode := m, flags := noFlags, demand := d, flow := 0, zones := 0, period := 250,
    liveness := .live, silence := 0, severity := none }

/-- `up` with these entries. -/
def withRoster (es : List Entry) : State := { up with ros := { entries := es, overflow := false } }

/-- `up` with unit u in this working state. -/
def withUnit (u : Fin 8) (w : WatchUnit) : State := { up with wch := { units := up.wch.units.set u w } }

/-- A FIRED unit with this last value. -/
def firedUnit (n : Nat) (v : Int) : WatchUnit := { status := .fired, count := n, clear := 0, window := none, last := some v }

/-- `s` with a frame begun on the line and nothing sampled; the station's own where one is given. -/
def inFrame (tx : Option TxFrame) (s : State) : State :=
  { s with
    rli := { s.rli with
      rx := .inFrame, lineLow := true, quiet := .running 0, lowTime := some 0, cell := some { age := 0, sampled := false },
      frame := emptyAssembly, tx := tx }
    lnk := { s.lnk with link := if tx.isSome then .sending else .receiving } }

/-- `up` with the receive filter off. -/
def filterOff : State := { up with sup := { up.sup with cfg := { up.sup.cfg with rxFilter := false } } }

/-- The LEAVE frame of station 9 (section 2.3.2). -/
def leave9 : List Byte := [0x29, 0x40, 0x31]

/-- A LEAVE of station 9 in flight. -/
def leaving9 : TxFrame := { kind := .event, bytes := leave9 }

/-- Station 9's LEAVE at cell n of its first byte, `ago` µs after the station's own edge. -/
def ownEdgeAt (n ago : Nat) : State :=
  { inFrame (some leaving9) up with
    rli := { (inFrame (some leaving9) up).rli with
      quiet := .running ago, lowTime := some ago, cell := some { age := ago, sampled := false }, driver := some (15 - ago)
      frame := { taken := [], cells := n, shift := 0, check := 0xFF } } }

/-- A STATUS of station 12 of segment 2, ACTIVE, with a demand of 1200. -/
def status12 : List Byte := frameBytes 2 12 1 [2, 0, 0x04, 0xB0, 0, 0, 0x20, 5]

/-- A DRIP of station 12 with severity ISOLATE, for this segment. -/
def drip12 (seg : Byte) : List Byte := frameBytes 0 12 2 [seg, 2, 0, 0]

/-- The valve drive of `up` in this state. -/
def valveAt (v : ValveState) : Valve := { up.vlv with valve := v }

/-- `up` with this valve drive. -/
def withValve (d : Valve) : State := { up with vlv := d }

/-- `up` with a scan in progress in the sensor phase of zone z. -/
def sensing (z : Fin 4) : State :=
  { up with
    dsu := { up.dsu with scan := .sensor z, scanNumber := 7, tref := some 9000, counter := some 0, timeBase := some 9000 } }

/-- Station 9 waiting for its dry check in the sensor phase of zone 0, the only one enabled, with unit 0 of 3 at this count. -/
def joiningWet (n : Nat) : State :=
  let s := joiningState .pending (some 1)
  { s with
    sup := { s.sup with cfg := { defaultConfig with endZone := 0 } }
    dsu := (sensing 0).dsu
    wch := { units := s.wch.units.set 0 { status := .armed, count := n, clear := 0, window := none, last := some 700 } } }

/-- `up` in a reference phase. -/
def referencing : State :=
  { up with dsu := { up.dsu with scan := .reference, scanNumber := 7, counter := some 0, timeBase := some 0 } }

/-- `up` with the last channel being converted. -/
def converting (c0 c1 c2 : BitVec 12) : State :=
  { up with msu := { up.msu with adc := .converting 3, codes := [c0, c1, c2] } }

/-- `up` with the flow meter timing, and this window. -/
def timing (w : List Nat) : State := { up with msu := { up.msu with edge := .timing, period := some 0, window := w } }

/-- The default set with a first flow point of 100. -/
def from100 : ConfigSet := { defaultConfig with flowPoints := #v[100, 250, 500, 750, 1000, 1250, 1500, 1750, 2000] }

/-! ## WellFormed refuses what the hardware cannot present -/

theorem test_wellFormed_loadEnd : (Instr.loadEnd (List.replicate 221 0)).wellFormed = false := by decide +kernel
theorem test_wellFormed_lengthError : (Instr.lengthError 8).wellFormed = false := by decide
theorem test_wellFormed_goodFrame_length : (Instr.goodFrame [0x29, 0x40]).wellFormed = false := by decide
theorem test_wellFormed_goodFrame_field :
    (Instr.goodFrame (0x29 :: 0x49 :: List.replicate 10 0)).wellFormed = false := by decide
theorem test_wellFormed_referencePhaseEnd : (Instr.referencePhaseEnd 1048575).wellFormed = false := by decide
theorem test_wellFormed_sensorPhaseEnd : (Instr.sensorPhaseEnd 1048576).wellFormed = false := by decide
theorem test_wellFormed_flowRisingEdge : (Instr.flowRisingEdge 500001).wellFormed = false := by decide
theorem test_wellFormed_accepts :
    (Instr.loadEnd (List.replicate 222 0)).wellFormed && (Instr.lengthError 9).wellFormed &&
      (Instr.goodFrame leave9).wellFormed && (Instr.referencePhaseEnd 1048574).wellFormed &&
      (Instr.sensorPhaseEnd 1048575).wellFormed && (Instr.flowRisingEdge 500000).wellFormed = true := by decide +kernel

/-! ## What spells a command -/

/-- The service requests by their codes (R166). -/
theorem test_decodeWrite :
    [decodeWrite [0x01], decodeWrite [0x04, 3], decodeWrite [0x04], decodeWrite [0x16, 9], decodeWrite [0x08]] =
      [some .ident, some (.watch 3), some .badRequest, some .unpark, some .badRequest] := by decide +kernel

/-- No row of the table has bits, so withFetchWord leaves the state as it is. -/
theorem test_decodeTableWord : decodeTableWord 8 0 = none ∧ up.withFetchWord 8 0 = up := ⟨rfl, rfl⟩

/-! ## Figures worked in the manual -/

/-- The check over 0x29, 0x40 passes through 0xB6 to 0x31 (section 2.3.2). -/
theorem test_crc : crc [0x29] = 0xB6 ∧ crc [0x29, 0x40] = 0x31 := by decide

/-- The LEAVE frame of station 9 (section 2.3.2). -/
theorem test_leave_bytes : eventBytes 9 .leave = leave9 := by decide +kernel

/-- The cells of its first byte (section 2.3.2). -/
theorem test_cells :
    (List.range 10).map (fun c => lowTimeOf (byteCell 0x29 c)) = [15, 15, 15, 5, 15, 5, 15, 15, 5, 5] := by decide

/-- The first STATUS of station 9 in section 1.11: mode code 2, the CONFIG flag, demand 712, flow 203. -/
theorem test_status_bytes :
    (composeFrame .status
        { up with
          sup := { up.sup with configAdjusted := true }
          shr := { up.shr with demand := 712 }
          msu := { up.msu with flow := 203, known := true } }).bytes.take 10 =
      [0x49, 0x18, 0x02, 0x01, 0x02, 0xC8, 0x00, 0xCB, 0x20, 0x05] := by decide +kernel

/-- The table of R79. -/
theorem test_index :
    [41, 410, 3000, 268431, 268432, 300000].map (fun n => conductanceIndex n 4096) =
      [10, 100, 732, 65534, 65535, 65535] := by decide

/-- The table of R94. -/
theorem test_scale :
    [scaleCode ⟨0, 1000⟩ 1958, scaleCode ⟨0, 1000⟩ 1720, scaleCode ⟨0, 1000⟩ 1597, scaleCode ⟨-400, 1200⟩ 2048,
      scaleCode ⟨0, 1000⟩ 16, scaleCode ⟨0, 1000⟩ 4079] = [478, 420, 389, 400, 3, 996] := by decide

/-- The table of R101. -/
theorem test_flow :
    [[2222], [2250, 2222], [2250, 2222, 2301], [666], [667]].map (fun w => flowOf 450 (flowPeriod w)) =
      [600, 600, 592, 2000, 1999] := by decide

/-- The table of R134. -/
theorem test_baseDuty :
    [1, 200, 712, 843, 900, 1999, 2000].map (baseDutyOf defaultConfig) = [120, 232, 464, 513, 534, 899, 900] := by decide

/-- The target demand of section 1.11: 47.8 °C against 45.0 °C gives 600 + 112. -/
theorem test_targetDemand :
    targetDemand defaultConfig
      { supplyTemp := none, supplyValid := false, returnTemp := some 478, returnValid := true, deltaP := none,
        flow := 0, known := false, time := 0 } = 712 := by decide

/-! ## One step of each command -/

/-- R6: reset returns the mode to STARTING. -/
theorem test_reset : seen (fun t => (t.sup.mode, t.lnk.link, t.shr.demand)) (exec .reset up) = some (.starting, .off, 600) := by
  decide +kernel

/-- R1. -/
theorem test_resetRelease :
    seen (fun t => (t.sup.ownAddr, t.sup.ownSeg, t.sup.loading)) (exec (.resetRelease 9 2) State.reset) =
      some (some 9, some 2, true) := by decide +kernel

/-- R3, R8: an absent memory gives the defaults, and the join timer runs for 500 ms. -/
theorem test_loadEnd_absent :
    seen (fun t => (t.sup.mode, t.sup.configDefaulted, t.sup.joinTimer)) (exec (.loadEnd (List.replicate 222 0xFF)) loadingState) =
      some (.joining, true, some 500000) := by decide +kernel

/-- Section 1.11: a good image with a scan period of 200 takes the default and sets CONFIG_ADJUSTED. -/
theorem test_loadEnd_adjusted :
    seen (fun t => (t.sup.cfg.scanPeriod, t.sup.configDefaulted, t.sup.configAdjusted))
        (exec (.loadEnd (configImage { defaultConfig with scanPeriod := 200 })) loadingState) =
      some (1000, false, true) := by decide +kernel

/-- R11: PASSED goes to ACTIVE, PENDING waits with the expired mark. -/
theorem test_joinTimerExpiry :
    seen (fun t => (t.sup.mode, t.lnk.announce)) (exec .joinTimerExpiry (joiningState .passed (some 0))) =
        some (.active, some 250000) ∧
      seen (fun t => (t.sup.mode, t.sup.joinExpired)) (exec .joinTimerExpiry (joiningState .pending (some 0))) =
        some (.joining, true) := by decide +kernel

/-- R41. -/
theorem test_announceTimerExpiry :
    seen (fun t => (t.lnk.statusPending, t.lnk.announce)) (exec .announceTimerExpiry up) = some (true, some 250000) := by
  decide +kernel

/-- R52: the link takes the state matching the receiver. -/
theorem test_holdoffExpiry :
    seen (fun t => (t.lnk.link, t.lnk.attempts))
        (exec .holdoffExpiry { up with lnk := { up.lnk with link := .holdoff, attempts := 4, holdoff := some 0 } }) =
      some (.idle, 0) := by decide +kernel

/-- R48, R22: the start cell is driven low for 15 µs. -/
theorem test_attemptStart :
    seen (fun t => (t.lnk.link, t.rli.rx, t.rli.driver, t.rli.tx))
        (exec .attemptStart { up with lnk := { up.lnk with queue := [.leave] } }) =
      some (.sending, .inFrame, some 15, some leaving9) := by decide +kernel

/-- R26 and R23: a start edge with no offer standing is received; a 1 µs pulse is not an edge. -/
theorem test_startEdge :
    seen (fun t => (t.lnk.link, t.rli.rx)) (exec (.startEdge 15) up) = some (.receiving, .inFrame) ∧
      exec (.startEdge 1) up = .next up := ⟨by decide +kernel, rfl⟩

/-- R24 and R40. -/
theorem test_quiet :
    seen (fun t => (t.lnk.link, t.rli.rx))
          (exec .quiet { up with rli := { up.rli with rx := .seekQuiet }, lnk := { up.lnk with link := .waitQuiet } }) =
        some (.idle, .idle) ∧
      seen (fun t => (t.lnk.link, t.rli.rx))
          (exec .quiet
            { up with
              rli := { up.rli with rx := .stuck }
              lnk := { up.lnk with link := .lineFault, attempts := 4, holdoff := some 20000 } }) =
        some (.holdoff, .idle) := by decide +kernel

/-- R25, R40, R55. -/
theorem test_lineStuck :
    seen (fun t => (t.lnk.link, t.rli.rx, t.lnk.lastError)) (exec .lineStuck up) = some (.lineFault, .stuck, .lineStuck) := by
  decide +kernel

/-- R28, R55. -/
theorem test_gapTimeout :
    seen (fun t => (t.lnk.link, t.rli.rx, t.lnk.lastError)) (exec .gapTimeout (inFrame none up)) =
      some (.waitQuiet, .seekQuiet, .gapTimeout) := by decide +kernel

/-- R27, R55. -/
theorem test_frameError :
    seen (fun t => (t.rli.rx, t.rli.lineLow, t.lnk.lastError)) (exec (.frameError .stopLow) (inFrame none up)) =
      some (.seekQuiet, true, .frameError) := by decide +kernel

/-- R29, R55. -/
theorem test_lengthError :
    seen (fun t => (t.rli.rx, t.lnk.lastError)) (exec (.lengthError 9) (inFrame none up)) =
      some (.seekQuiet, .lengthError) := by decide +kernel

/-- R29: once the second header byte has brought the length bits 00, no length of 9 can be found in it. -/
theorem test_lengthError_contradicted :
    seen (fun t => (t.rli.rx, t.lnk.lastError))
        (exec (.lengthError 9)
          { inFrame none up with
            rli := { (inFrame none up).rli with
              frame := { taken := [0x29], cells := 7, shift := 0b010000, check := 0xB6 } } }) =
      some (.inFrame, .none) := by decide +kernel

/-- R59: a STATUS from a new address is admitted with its demand. -/
theorem test_goodFrame_status :
    seen (fun t => t.ros.entries.map fun e => (e.address, e.segment, e.demand, e.period))
        (exec (.goodFrame status12) (inFrame none up)) = some [(12, 2, 1200, 250)] := by decide +kernel

/-- Section 1.11: the second ISOLATED entry of the segment takes the station to CONTAINED, arms unit 4 for 30 s and triggers a scan. -/
theorem test_goodFrame_drip :
    seen (fun t => (t.sup.mode, t.wch.units[4].status, t.wch.units[4].window, t.dsu.scan))
        (exec (.goodFrame (drip12 2)) (inFrame none (withRoster [entryOf 4 .isolated 0, entryOf 12 .active 1200]))) =
      some (.contained, .armed, some 30000000, .reference) := by decide +kernel

/-- Section 2.6: station 9 loses a STATUS to station 5 in the fifth header bit, uncounted. -/
theorem test_lostArbitration :
    seen (fun t => (t.lnk.link, t.lnk.attempts, t.rli.tx, t.rli.frame.shift))
        (exec (.lostArbitration 4) (inFrame (some { kind := .status, bytes := [0x49, 0x18] }) up)) =
      some (.receiving, 0, none, 0b01000) := by decide +kernel

/-- Section 2.6 and R51: the first error counts attempt 1; the fourth of a STATUS clears status-pending and holds off for 50 ms. -/
theorem test_bitError :
    seen (fun t => (t.lnk.link, t.lnk.attempts)) (exec (.bitError false) (inFrame (some leaving9) up)) = some (.waitQuiet, 1) ∧
      seen (fun t => (t.lnk.link, t.lnk.holdoff, t.lnk.statusPending))
          (exec (.bitError false)
            (inFrame (some { kind := .status, bytes := status12 })
              { up with lnk := { up.lnk with attempts := 3, statusPending := true } })) =
        some (.holdoff, some 50000, false) := by decide +kernel

/-- R36, R37, R22: a header data cell sent 1, not sampled yet, is no BIT_ERROR's cell for a 0, so quiet stands at the 10 µs of a later
cell; the 0 of the cell before it goes on from where it stands for a 1. -/
theorem test_bitError_header :
    seen (fun t => (t.rli.quiet, t.rli.lowTime))
        (exec (.bitError false)
          { inFrame (some leaving9) up with
            rli := { (inFrame (some leaving9) up).rli with
              quiet := .running 3, lowTime := none, lineLow := false,
              frame := { taken := [], cells := 3, shift := 0, check := 0xFF } } }) = some (.running 10, some 10) ∧
      seen (fun t => (t.rli.quiet, t.rli.lowTime))
        (exec (.bitError true)
          { inFrame (some leaving9) up with
            rli := { (inFrame (some leaving9) up).rli with
              quiet := .running 3, lowTime := none, lineLow := false,
              frame := { taken := [], cells := 2, shift := 0, check := 0xFF } } }) = some (.running 3, none) := by decide +kernel

/-- R67: a STALE entry keeps its mode and demand. -/
theorem test_entryStale :
    seen (fun t => t.ros.entries.map fun e => (e.liveness, e.mode, e.demand))
        (exec (.entryStale 12) (withRoster [{ entryOf 12 .active 1200 with silence := 750000 }])) =
      some [(.stale, .active, 1200)] := by decide +kernel

/-- R68, R13: the removal of an ISOLATED entry ends CONTAINED. -/
theorem test_entryRemoval :
    seen (fun t => (t.sup.mode, t.ros.entries.length))
        (exec (.entryRemoval 4)
          { withRoster [entryOf 4 .isolated 0, entryOf 12 .isolated 0] with sup := { up.sup with mode := .contained } }) =
      some (.active, 1) := by decide +kernel

/-- R85: in IDLE a scan starts and the timer starts its next period. -/
theorem test_scanTimerExpiry :
    seen (fun t => (t.dsu.scan, t.dsu.scanNumber, t.dsu.scanTimer)) (exec .scanTimerExpiry up) =
      some (.reference, 1, some 1000000) := by decide +kernel

/-- R75 at its boundary: 1,048,574 ticks are a Tref, one more is not. -/
theorem test_referencePhaseEnd :
    seen (fun t => (t.dsu.scan, t.dsu.tref)) (exec (.referencePhaseEnd 1048574) referencing) =
        some (.sensor 0, some 1048574) ∧
      exec (.referencePhaseEnd 1048575) referencing = .next referencing := ⟨by decide +kernel, rfl⟩

/-- R10: the third fault of a join passes the dry check degraded and opens the valve. -/
theorem test_referenceFault :
    seen (fun t => (t.sup.dryCheck, t.sup.joinDegrade, t.sup.sensorFault, t.vlv.valve))
        (exec .referenceFault
          { joiningState .pending (some 1) with sup := { (joiningState .pending (some 1)).sup with joinFaults := 2 } }) =
      some (.passed, true, true, .opening) := by decide +kernel

/-- R80: an index of 19 is OPEN at the default threshold of 20, and sets SENSOR_FAULT. -/
theorem test_sensorPhaseEnd :
    seen (fun t => (t.dsu.latest[0].map fun r => (r.index, r.state), t.dsu.scan, t.sup.sensorFault))
        (exec (.sensorPhaseEnd 80) (sensing 0)) = some (some (19, .openTape), .sensor 1, true) := by decide +kernel

/-- R78: an overflow gives a SHORT reading, which meets unit 0's threshold. -/
theorem test_counterOverflow :
    seen (fun t => (t.dsu.latest[0].map fun r => (r.ns, r.index, r.state), t.wch.units[0].count))
        (exec .counterOverflow (sensing 0)) = some (some (1048575, 65535, .short), 1) := by decide +kernel

/-- R91. -/
theorem test_acquisitionTimerExpiry :
    seen (fun t => (t.msu.acqTimer, t.msu.adc)) (exec .acquisitionTimerExpiry up) = some (some 100000, .converting 0) := by
  decide +kernel

/-- R94 and R95: the pressures 420 and 389 give a ΔP of 31. -/
theorem test_conversionEnd :
    seen (fun t => (t.msu.chans[1].value, t.msu.deltaP)) (exec (.conversionEnd 1597) (converting 2048 1958 1720)) =
      some (some 478, some 31) := by decide +kernel

/-- R93: a code of 4080 is INVALID, makes ΔP absent and sets SENSOR_FAULT. -/
theorem test_conversionEnd_invalid :
    seen (fun t => (t.msu.chans[3].valid, t.msu.deltaP, t.sup.sensorFault))
        (exec (.conversionEnd 4080) (converting 2048 1958 1720)) = some (false, none, true) := by decide +kernel

/-- R101, the third row of its table. -/
theorem test_flowRisingEdge :
    seen (fun t => (t.msu.flow, t.msu.known, t.msu.window)) (exec (.flowRisingEdge 2301) (timing [2250, 2222])) =
      some (592, true, [2250, 2222, 2301]) := by decide +kernel

/-- R102. -/
theorem test_noFlow :
    seen (fun t => (t.msu.flow, t.msu.known, t.msu.edge, t.msu.window)) (exec .noFlow (timing [2250, 2222])) =
      some (0, true, .awaitFirst, []) := by decide +kernel

/-- R116. -/
theorem test_windowExpiry :
    seen (fun t => (t.wch.units[4].status, t.wch.units[4].count))
        (exec (.windowExpiry 4) (withUnit 4 { status := .armed, count := 0, clear := 0, window := some 0, last := none })) =
      some (.disarmed, 0) := by decide +kernel

/-- R144, R145. -/
theorem test_periodStart :
    seen (fun t => (t.vlv.applied, t.vlv.returnDrive))
        (exec .periodStart (withValve { valveAt .opened with pendingDuty := 232, returnDrive := .full })) =
      some (232, .hold) := by decide +kernel

/-- R149: OPEN, the return still fully on. -/
theorem test_pullInExpiry :
    seen (fun t => (t.vlv.valve, t.vlv.returnDrive))
        (exec .pullInExpiry (withValve { valveAt .opening with pullIn := some 0, returnDrive := .full })) =
      some (.opened, .full) := by decide +kernel

/-- R150: the check fails while the flow is UNKNOWN. -/
theorem test_strokeTimerExpiry :
    seen (fun t => (t.vlv.valve, t.vlv.strokeFault, t.svc.attn))
        (exec .strokeTimerExpiry (withValve { valveAt .closing with stroke := some 0 })) = some (.stuck, true, true) := by
  decide +kernel

/-- R170: the IDENT item. -/
theorem test_ident :
    seen (fun t => t.svc.pendingAnswer) (exec .ident up) =
      some (some { result := .ok, item := [0x4B, 0x26, 0x18, 0x01, 9, 2] }) := by decide +kernel

/-- R170: STATION in STARTING shows a demand of 600 and a flow of 0xFFFF. -/
theorem test_station :
    seen (fun t => t.svc.pendingAnswer.map fun a => a.item.take 13) (exec .station loadingState) =
      some (some [0, 0, 0, 0x02, 0x58, 0, 0, 0, 0, 0, 0, 0xFF, 0xFF]) := by decide +kernel

/-- R177: a zone without a reading shows the state 0xFF. -/
theorem test_zones :
    seen (fun t => t.svc.pendingAnswer.map fun a => a.item.take 5) (exec .zones up) = some (some [0, 0, 0xFF, 0, 0]) := by
  decide +kernel

/-- Section 11.6: unit 0 FIRED with counter 3 and last value 640; unit 8 does not exist. -/
theorem test_watch :
    seen (fun t => t.svc.pendingAnswer.map fun a => a.item) (exec (.watch 0) (withUnit 0 (firedUnit 3 640))) =
        some (some [2, 3, 0, 0x02, 0x80, 1, 0xFF, 0xFF]) ∧
      seen (fun t => t.svc.pendingAnswer.map fun a => a.result) (exec (.watch 8) up) = some (some .badIndex) := by
  decide +kernel

/-- R177: address, segment, mode and flags stand first; an empty position is BAD_INDEX. -/
theorem test_roster :
    seen (fun t => t.svc.pendingAnswer.map fun a => a.item.take 6) (exec (.roster 0) (withRoster [entryOf 12 .active 1200])) =
        some (some [12, 2, 2, 0, 0x04, 0xB0]) ∧
      seen (fun t => t.svc.pendingAnswer.map fun a => a.result) (exec (.roster 0) up) = some (some .badIndex) := by
  decide +kernel

/-- R170: a running, empty capture. -/
theorem test_captureInfo :
    seen (fun t => t.svc.pendingAnswer.map fun a => a.item) (exec .captureInfo up) =
      some (some [0, 0, 0, 0, 0xFF, 0, 0, 0, 0]) := by decide +kernel

/-- R171: NOT_FROZEN while RUNNING; R178: a UNIT_FIRED record of unit 0 in FROZEN. -/
theorem test_capture :
    seen (fun t => t.svc.pendingAnswer.map fun a => a.result) (exec (.capture 0) up) = some (some .notFrozen) ∧
      seen (fun t => t.svc.pendingAnswer.map fun a => a.item.take 8)
          (exec (.capture 0)
            { up with
              cap := { up.cap with frozen := true, ring := [{ time := 258, body := .event (.unitFired 0) }] } }) =
        some (some [0, 0, 1, 2, 2, 1, 0, 0]) := by decide +kernel

/-- Section 11.6: refused STILL_WET at a last value of 640, accepted at 101. -/
theorem test_release :
    seen (fun t => (t.sup.mode, t.svc.pendingAnswer.map fun a => a.result))
          (exec .release { inMode .isolated with wch := (withUnit 0 (firedUnit 3 640)).wch }) =
        some (.isolated, some .stillWet) ∧
      seen (fun t => (t.sup.mode, t.svc.pendingAnswer.map fun a => a.result, t.wch.units[0].status, t.lnk.queue))
          (exec .release { inMode .isolated with wch := (withUnit 0 (firedUnit 3 101)).wch }) =
        some (.active, some .ok, .armed, [.clear 2]) := by decide +kernel

/-- R16: an ALERT unit returns to ARMED, an ISOLATE unit stays FIRED. -/
theorem test_acknowledge :
    seen (fun t => t.wch.units[3].status) (exec .acknowledge (withUnit 3 (firedUnit 4 500))) = some .armed ∧
      seen (fun t => t.wch.units[0].status) (exec .acknowledge (withUnit 0 (firedUnit 3 640))) = some .fired := by
  decide +kernel

/-- R84: rescan-pending during a scan, WRONG_MODE in PARKED. -/
theorem test_scan :
    seen (fun t => (t.dsu.rescan, t.svc.pendingAnswer.map fun a => a.result)) (exec .scan (sensing 1)) = some (true, some .ok) ∧
      seen (fun t => t.svc.pendingAnswer.map fun a => a.result) (exec .scan (inMode .parked)) = some (some .wrongMode) := by
  decide +kernel

/-- R161. -/
theorem test_freeze :
    seen (fun t => (t.cap.frozen, t.cap.reason, t.cap.unit, t.cap.time)) (exec .freeze up) =
      some (true, .service, none, some 600) := by decide +kernel

/-- R163: refused in RUNNING. -/
theorem test_resume :
    seen (fun t => t.svc.pendingAnswer.map fun a => a.result) (exec .resume up) = some (some .notFrozen) := by decide +kernel

/-- R14: the valve closes and a LEAVE waits. -/
theorem test_park :
    seen (fun t => (t.sup.mode, t.vlv.valve, t.lnk.queue)) (exec .park { up with vlv := valveAt .opened }) =
        some (.parked, .closing, [.leave]) ∧
      seen (fun t => t.svc.pendingAnswer.map fun a => a.result) (exec .park (inMode .parked)) = some (some .wrongMode) := by
  decide +kernel

/-- R87: an abort in SENSOR(1) brings back what stood before the scan. -/
theorem test_park_scanning :
    seen (fun t => (t.dsu.scan, t.dsu.tref, t.dsu.refFaults, t.sup.sensorFault))
        (exec .park { sensing 1 with dsu := { (sensing 1).dsu with trefBefore := some 8990, refFaultsBefore := 2 } }) =
      some (.idle, some 8990, 2, true) := by decide +kernel

/-- R15. -/
theorem test_unpark :
    seen (fun t => (t.sup.mode, t.sup.dryCheck, t.sup.joinTimer, t.dsu.scan)) (exec .unpark (inMode .parked)) =
      some (.joining, .pending, some 500000, .reference) := by decide +kernel

/-- R166. -/
theorem test_badRequest :
    seen (fun t => t.svc.pendingAnswer.map fun a => a.result) (exec .badRequest up) = some (some .badRequest) := by
  decide +kernel

/-- Section 11.6: a read with nothing pending returns NO_REQUEST, then 0x00. -/
theorem test_serviceRead : seen (fun t => t.svc.readOut) (exec (.serviceRead 3) up) = some [6, 0, 0] := by decide +kernel

/-- R22, R27: a start cell sampled low opens the byte. -/
theorem test_cellSamplePoint :
    seen (fun t => (t.rli.frame.cells, t.rli.rx)) (exec .cellSamplePoint (inFrame none up)) = some (1, .inFrame) := by
  decide +kernel

/-- R21: a fall before the sample point belongs to the current cell. -/
theorem test_rowFallingEdge :
    seen (fun t => t.rli.cell)
        (exec (.rowFallingEdge 5)
          { inFrame none up with
            rli := { (inFrame none up).rli with lineLow := false, cell := some { age := 7, sampled := false } } }) =
      some (some { age := 7, sampled := false }) := by decide +kernel

/-- R25: a rise ends the low-time measure. -/
theorem test_rowRisingEdge :
    seen (fun t => (t.rli.lineLow, t.rli.lowTime)) (exec (.rowRisingEdge 5) (inFrame none up)) = some (false, none) := by
  decide +kernel

/-- R21, R22: station 9's LEAVE goes on with class bit 0, low for 15 µs. -/
theorem test_transmitCellEdge :
    seen (fun t => (t.rli.driver, t.rli.cell))
        (exec .transmitCellEdge
          { inFrame (some leaving9) up with
            rli := { (inFrame (some leaving9) up).rli with
              cell := some { age := 20, sampled := true }
              frame := { taken := [], cells := 1, shift := 0, check := 0xFF } } }) =
      some (some 15, some { age := 0, sampled := false }) := by decide +kernel

/-- R24, R25: on a line that another station still holds low the next cell is no falling edge. -/
theorem test_transmitCellEdge_low :
    seen (fun t => (t.rli.quiet, t.rli.lowTime, t.rli.driver))
        (exec .transmitCellEdge
          { inFrame (some leaving9) up with
            rli := { (inFrame (some leaving9) up).rli with
              quiet := .running 20, lowTime := some 20, cell := some { age := 20, sampled := true }
              frame := { taken := [], cells := 3, shift := 0, check := 0xFF } } }) =
      some (.running 20, some 20, some 5) := by decide +kernel

/-- R22. -/
theorem test_driveRelease :
    seen (fun t => t.rli.driver) (exec .driveRelease { up with rli := { up.rli with driver := some 0 } }) = some none := by
  decide +kernel

/-- R24: on a line found low at 160 µs the quiet timer waits for the rise; a frame that goes on to its stop cell has had that cell's edge
10 µs before its sample point. -/
theorem test_goodFrame_after_low :
    (let s := inFrame (some leaving9) up
     seen (fun t => (t.rli.lineLow, t.rli.quiet))
       (exec (.goodFrame leave9) { s with rli := { s.rli with quiet := .awaitRise, lowTime := some 161 } })) =
      some (false, .running 10) := by decide +kernel

/-- R24: where the frame stands at its stop cell already, quiet is counted on from that cell's edge. -/
theorem test_goodFrame_stop_cell :
    (let s := inFrame none up
     seen (fun t => t.rli.quiet)
       (exec (.goodFrame leave9)
         { s with
           rli := { s.rli with
             lineLow := false, quiet := .running 10, lowTime := none, cell := some { age := 10, sampled := false }
             frame := { taken := [0x29, 0x40], cells := 9, shift := 0x31, check := 0x31 } } })) =
      some (.running 10) := by decide +kernel

/-- R22, R25: a 0 found for a 1 in a later cell has held the line low for the 10 µs since that cell's edge. -/
theorem test_lostArbitration_low :
    seen (fun t => (t.rli.lowTime, t.rli.quiet)) (exec (.lostArbitration 2) (inFrame (some leaving9) up)) =
      some (some 10, .running 10) := by decide +kernel

/-- R23: with the filter on an edge is taken when its level has held for 2 µs, and its timers and its cell count from its first moment;
with the filter off it is taken as it comes. -/
theorem test_startEdge_dated :
    [up, filterOff].map (fun s =>
        seen (fun t => (t.rli.quiet, t.rli.lowTime, t.rli.cell.map fun c => c.age)) (exec (.startEdge 15) s)) =
      [some (.running 2, some 2, some 2), some (.running 0, some 0, some 0)] := by decide +kernel

/-- R21, R22, R35: a station that joins holds the line low until 15 µs after the edge's first moment. -/
theorem test_startEdge_joins :
    seen (fun t => (t.lnk.link, t.rli.driver, t.rli.tx))
        (exec (.startEdge 15) { up with lnk := { up.lnk with queue := [.leave] } }) =
      some (.sending, some 13, some leaving9) := by decide +kernel

/-- R21, R35: a fall that came 1 µs before the station's own edge moves a later cell's edge back, but not the start cell's. -/
theorem test_rowFallingEdge_before_own :
    [0, 3].map (fun n =>
        seen (fun t => (t.rli.quiet, t.rli.cell.map fun c => c.age, t.rli.driver)) (exec (.rowFallingEdge 15) (ownEdgeAt n 1))) =
      [some (.running 2, some 1, some 14), some (.running 2, some 2, some 3)] := by decide +kernel

/-- R24, R25: the release of a stuck line restarts the quiet timer; a pulse after it is counted from its fall. -/
theorem test_stuck_release :
    (let stuck : State :=
      { up with
        rli := { up.rli with rx := .stuck, lineLow := true, quiet := .awaitRise, lowTime := some 400 }
        lnk := { up.lnk with link := .lineFault } }
     [stuck, { stuck with rli := { stuck.rli with quiet := .running 20, lowTime := some 20 } }].map fun s =>
       seen (fun t => t.rli.quiet) (exec (.rowRisingEdge 10) s)) =
      [some (.running 2), some (.running 20)] := by decide +kernel

/-- R2, R3: 225 bytes in 1800 SCK cycles; an absent memory reads as 0xFF; CSN is low during the load only. -/
theorem test_loadTransfer :
    (loadTransfer (memoryImage fun _ => 0xFF)).length = 225 ∧
      sckCycles (loadTransfer (memoryImage fun _ => 0xFF)) = 1800 ∧
      loadHeader = [0x03, 0x00, 0x00] ∧ memoryImage (fun _ => 0xFF) = List.replicate 222 0xFF ∧
      (csnHigh loadingState, csnHigh up) = (false, true) := by decide +kernel

/-! ## Steps on an empty queue, outputs, the bus -/

/-- R67: where a frame's sample point and an entry's STALE point fall in one µs, the frame is taken first. -/
theorem test_idle_frame_first :
    (let s := inFrame none (withRoster [{ entryOf 12 .active 1200 with silence := 750000 }])
     seen (·.pending) (step { s with rli := { s.rli with cell := some { age := 10, sampled := false } } })) =
      some [.cellSamplePoint] := by decide +kernel

/-- R143: the 1000th µs of a ms starts a PWM period. -/
theorem test_idle_period :
    seen (fun t => (t.pending, t.clk.ms, t.clk.us)) (step { up with clk := { up.clk with us := 999 } }) =
      some ([.periodStart], 601, 0) := by decide +kernel

/-- R145: at the default hold duty of 400 the return is on for 390.6 µs of the period. -/
theorem test_returnOutput :
    [390, 391].map (fun n => returnOutput
        { withValve { valveAt .opened with returnDrive := .hold } with clk := { up.clk with us := n } }) =
      [true, false] := by decide +kernel

/-- R165: the address 0x4E, most significant bit first, a byte cut short dropped; the general call is not for the part. -/
theorem test_bus :
    (let bits : List Bool := [false, false, false, false, false, false, false, true, true, true]
     [busWrite 0x4E bits, busWrite 0x4E (bits.take 7), busWrite 0 bits] = [some .ident, none, none]) ∧
      acknowledges 0x4E up = true ∧ acknowledges 0 up = false ∧ acknowledges 0x4E State.reset = false := by decide +kernel

/-! ## Witnesses: a state and operands that meet the hypotheses of each statement, clause by clause -/

theorem witness_IdleStepCountsOneMicrosecond :
    (State.reset.pending = [] ∧ State.reset.clk.held = true) ∧
      (up.pending = [] ∧ up.clk.held = false ∧ up.clk.us < 999 ∧ dueEvents up = [] ∧ standingOffer up = none) ∧
      (let s : State := { up with lnk := { up.lnk with announce := some 0 }, vlv := { valveAt .opening with pullIn := some 0 } }
       s.pending = [] ∧ s.clk.held = false ∧ dueEvents s = [.announceTimerExpiry, .pullInExpiry]) ∧
      (let s : State := { up with lnk := { up.lnk with queue := [.leave] } }
       s.pending = [] ∧ s.clk.held = false ∧ dueEvents s = [] ∧ s.rli.rx = .idle ∧ (standingOffer s).isSome = true) ∧
      (let s : State := { up with clk := { up.clk with us := 999 } }
       s.pending = [] ∧ s.clk.held = false ∧ dueEvents s = [] ∧ standingOffer s = none ∧ s.clk.us = 999) := by decide +kernel

theorem witness_ResetLeavesTheTableValuesAndReleaseSamplesTheStraps :
    State.reset.clk.held = true ∧ up.clk.held = false := by decide +kernel

theorem witness_LoadEndEntersJoining :
    StartingSafe loadingState ∧ loadingState.sup.loading = true ∧ (configImage defaultConfig).length = 222 := by
  unfold StartingSafe; decide +kernel

theorem witness_ImageCheckDefaultsTheWholeSet :
    (imageByte [0x6A] 0 ≠ 0x6B) ∧ (imageByte [0x6B, 221] 1 ≠ 222) ∧
      (let i := configImage defaultConfig
       imageByte i 0 = 0x6B ∧ imageByte i 1 = 222 ∧
         256 * imageByte i 220 + imageByte i 221 = ((List.range 220).map (imageByte i)).sum % 65536) ∧
      (let i := (configImage defaultConfig).set 2 6
       256 * imageByte i 220 + imageByte i 221 ≠ ((List.range 220).map (imageByte i)).sum % 65536) := by decide +kernel

theorem witness_ConfigInRange :
    ConfigInRange defaultConfig := by
  unfold ConfigInRange UnitInRange; decide +kernel

theorem witness_LoadedSetIsInRange :
    (ConfigSafe up ∧ ∃ t, step up = .next t) ∧
      (loadImage (configImage defaultConfig)).defaulted = false ∧
      (let image := configImage { defaultConfig with scanPeriod := 200, dmin := 900, dmax := 800 }
       (loadImage image).defaulted = false ∧ (loadImage image).cfg.scanPeriod = 1000 ∧ (loadImage image).cfg.dmax = 900 ∧
         (loadImage image).adjusted = true) :=
  ⟨⟨witness_ConfigInRange, _, rfl⟩, by decide +kernel, by decide +kernel⟩

theorem witness_ConfigImageRoundTrip :
    ConfigInRange { defaultConfig with startZone := 3, quorum := 0, dmin := 1800 } := by
  unfold ConfigInRange UnitInRange; decide +kernel

theorem witness_EventsWithoutTheirConditionChangeNothing :
    (up.sup.joinTimer = none ∧ up.lnk.holdoff = none ∧ up.wch.units[4].window = none ∧ up.vlv.valve ≠ .opening ∧
        up.vlv.valve ≠ .closing ∧ up.sup.loading = false ∧ up.rli.lineLow = false ∧ standingOffer up = none ∧
        up.rli.rx ≠ .seekQuiet ∧ up.rli.rx ≠ .stuck ∧ up.rli.rx ≠ .inFrame ∧ up.rli.tx = none ∧
        findEntry 12 up.ros.entries = none ∧ up.dsu.scan ≠ .reference ∧ (∀ z, up.dsu.scan ≠ .sensor z) ∧
        up.msu.adc = .idle ∧ up.msu.edge = .awaitFirst) ∧
      (State.reset.clk.held = true ∧ State.reset.lnk.announce = none ∧ State.reset.dsu.scanTimer = none ∧
        State.reset.msu.acqTimer = none ∧ State.reset.rli.rx = .off) ∧
      ((inFrame none up).rli.lineLow = true ∧ (inFrame (some leaving9) up).rli.tx.isSome = true) ∧
      ((ownEdgeAt 3 2).rli.lineLow = true ∧ (ownEdgeAt 3 2).rli.lowTime = some 2) := by decide +kernel

/-- The own edge is younger than the filter's 2 µs at 0 and 1 µs, and no more at 2, nor with the filter off. -/
theorem witness_OwnEdgeYoung :
    (∀ n : Nat, OwnEdgeYoung (ownEdgeAt n 0) ∧ OwnEdgeYoung (ownEdgeAt n 1) ∧ ¬OwnEdgeYoung (ownEdgeAt n 2)) ∧
      (ownEdgeAt 0 1).rli.frame.taken = [] ∧ (ownEdgeAt 0 1).rli.frame.cells = 0 ∧ (ownEdgeAt 3 1).rli.frame.cells ≠ 0 ∧
      (ownEdgeAt 3 1).rli.lineLow = true ∧ ¬OwnEdgeYoung (inFrame none up) ∧ ¬OwnEdgeYoung filterOff := by
  refine ⟨fun n => ⟨⟨rfl, rfl, rfl, ⟨_, rfl, rfl⟩, 0, rfl, by decide⟩, ⟨rfl, rfl, rfl, ⟨_, rfl, rfl⟩, 1, rfl, by decide⟩, ?_⟩,
    rfl, rfl, by decide, rfl, ?_, ?_⟩
  · rintro ⟨-, -, -, -, k, hk, hlt⟩; cases hk; omega
  · rintro ⟨-, -, h, -⟩; cases h
  · rintro ⟨h, -⟩; cases h

theorem witness_StrapsAndConfigurationHold :
    up.clk.held = false ∧ Instr.park ≠ .reset ∧ up.sup.loading = false ∧ ∃ t, exec .park up = .next t := ⟨rfl, by decide, rfl, _, rfl⟩

theorem witness_JoinTimerExpiryEndsTheJoin :
    (let s := joiningState .passed (some 0)
     s.sup.mode = .joining ∧ s.sup.joinTimer = some 0 ∧ s.sup.dryCheck = .passed) ∧
      (let s := joiningState .pending (some 0)
       s.sup.mode = .joining ∧ s.sup.joinTimer = some 0 ∧ s.sup.dryCheck = .pending) := by decide +kernel

theorem witness_AnnounceAndHoldoffExpiry :
    up.lnk.announce = some 250000 ∧
      (let s : State := { up with lnk := { up.lnk with link := .holdoff, attempts := 4, holdoff := some 0 } }
       s.lnk.holdoff = some 0 ∧ s.lnk.link = .holdoff) ∧
      (let s : State := { up with lnk := { up.lnk with link := .lineFault, attempts := 4, holdoff := some 0 } }
       s.lnk.holdoff = some 0 ∧ s.lnk.link = .lineFault) := by decide +kernel

theorem witness_OfferStandsByModeAndStartsAtTheStartEdge :
    (let s : State := { up with lnk := { up.lnk with queue := [.leave] } }
     s.rli.rx = .idle ∧ standingOffer s = some .event ∧ s.rli.lineLow = false ∧ s.sup.cfg.rxFilter = true ∧ 2 ≤ 15) ∧
      (let s : State := { filterOff with lnk := { up.lnk with queue := [.leave] } }
       s.rli.rx = .idle ∧ standingOffer s = some .event ∧ s.rli.lineLow = false ∧ s.sup.cfg.rxFilter = false) ∧
      (let s : State := { inMode .parked with lnk := { up.lnk with queue := [.leave] } }
       s.rli.rx = .idle ∧ standingOffer s = some .event) ∧
      (let s : State := { up with lnk := { up.lnk with statusPending := true } }
       s.rli.rx = .idle ∧ standingOffer s = some .status) := by decide +kernel

theorem witness_FallingEdgeActsByReceiverState :
    (up.sup.cfg.rxFilter = true ∧ 1 < 2) ∧
      (up.rli.lineLow = false ∧ up.rli.rx = .idle ∧ standingOffer up = none ∧ up.rli.tx = none) ∧
      (State.reset.rli.lineLow = false ∧ State.reset.rli.rx = .off) ∧
      (let s : State := { up with rli := { up.rli with rx := .seekQuiet } }
       s.rli.lineLow = false ∧ s.rli.rx = .seekQuiet) ∧
      (∀ sampled : Bool, ∀ tx ∈ [none, some leaving9],
        let s : State :=
          { inFrame tx up with
            rli := { (inFrame tx up).rli with lineLow := false, cell := some { age := 12, sampled := sampled } } }
        s.rli.lineLow = false ∧ s.rli.rx = .inFrame ∧ s.rli.cell = some { age := 12, sampled := sampled } ∧ s.rli.tx = tx) := by decide +kernel

theorem witness_QuietAndLineStuckMoveTheReceiver :
    ({ up.rli with rx := .seekQuiet } : RowLine).rx = .seekQuiet ∧ ({ up.rli with rx := .stuck } : RowLine).rx = .stuck ∧
      up.rli.rx = .idle ∧ up.rli.tx = none ∧ (inFrame none up).rli.rx = .inFrame ∧ (inFrame none up).rli.tx = none := by decide +kernel

theorem witness_ReceptionErrorsDiscardTheFrame :
    ((inFrame none up).rli.rx = .inFrame ∧ (inFrame none up).rli.tx = none ∧ 9 ≤ (9#4).toNat ∧
        lengthAgrees 9 (inFrame none up).rli.frame = true ∧
        lengthAgrees 9 { taken := [0x29], cells := 7, shift := 0b010000, check := 0xB6 } = false) ∧
      (let s := inFrame none up
       s.svc.attn = attnNow s ∧ frameAdmitted [0x29, 0x40, 0x30] s = true ∧
         crc ([0x29, 0x40, 0x30] : List Byte).dropLast ≠ ([0x29, 0x40, 0x30] : List Byte).getLastD 0) ∧
      (let s := inFrame none up
       let long := frameBytes 1 9 4 [0]
       frameAdmitted long s = true ∧ crc long.dropLast = long.getLastD 0 ∧ wrongLength (rxFrameOf long) = true) := by decide +kernel

theorem witness_SelfEchoCompletesTheAttempt :
    ∀ k : TxKind, k = .event ∨ k = .status →
      let f : TxFrame := { kind := k, bytes := leave9 }
      let s := inFrame (some f) up
      s.rli.tx = some f ∧ s.svc.attn = attnNow s ∧ frameAdmitted f.bytes s = true ∧ crc f.bytes.dropLast = f.bytes.getLastD 0 ∧
        f.kind = k := by
  intro k hk
  rcases hk with rfl | rfl <;> decide +kernel

theorem witness_OwnAddressFrameEntersConflict :
    (let s := inFrame none up
     s.rli.tx = none ∧ frameAdmitted leave9 s = true ∧ crc leave9.dropLast = leave9.getLastD 0 ∧
       wrongLength (rxFrameOf leave9) = false ∧ some (rxFrameOf leave9).src = s.sup.ownAddr ∧ s.sup.mode ≠ .starting ∧
       s.sup.mode ≠ .conflict) ∧
      (let s : State := { inFrame none (inMode .conflict) with svc := { up.svc with attn := true } }
       s.rli.tx = none ∧ frameAdmitted leave9 s = true ∧ s.sup.mode = .conflict ∧ s.svc.attn = attnNow s) := by decide +kernel

theorem witness_LostArbitrationAndBitErrorEndTheAttempt :
    (let s := inFrame (some leaving9) up
     s.rli.rx = .inFrame ∧ s.rli.tx = some leaving9 ∧ s.lnk.attempts < 3 ∧ frameCell leave9 0 3 = true ∧
       10 * s.rli.frame.taken.length + s.rli.frame.cells ≤ 10 * (2 / 8) + 2 % 8 + 1) ∧
      (let s := inFrame (some leaving9) { up with lnk := { up.lnk with attempts := 3 } }
       s.rli.rx = .inFrame ∧ s.rli.tx = some leaving9 ∧ s.lnk.attempts = 3) ∧
      (frameCell [0x29, 0x41, 0] 1 8 = true ∧ 10 * 1 + 8 ≤ 10 * (15 / 8) + 15 % 8 + 1) := by decide +kernel

theorem witness_CellSampleReadsTheLine :
    (∀ tx ∈ [none, some leaving9],
        let s := inFrame tx up
        s.rli.rx = .inFrame ∧ s.rli.cell = some { age := 0, sampled := false } ∧ s.svc.attn = attnNow s ∧
          s.rli.frame.cells = 0 ∧ (!s.rli.lineLow) = false ∧ frameCell leave9 0 0 = !s.rli.lineLow) ∧
      (let s : State := { inFrame none up with rli := { (inFrame none up).rli with lineLow := false } }
       s.rli.tx = none ∧ s.rli.frame.cells = 0 ∧ (!s.rli.lineLow) = true ∧ s.svc.attn = attnNow s) ∧
      (∀ c ∈ [3, 8],
        let f : TxFrame := { kind := .event, bytes := [0x29, 0x40, 0x31] }
        let s : State :=
          { inFrame (some f) up with
            rli := { (inFrame (some f) up).rli with frame := { taken := [], cells := c, shift := 0, check := 0xFF } } }
        s.rli.frame.taken.length < 2 ∧ 1 ≤ s.rli.frame.cells ∧ s.rli.frame.cells ≤ 8 ∧
          frameCell f.bytes s.rli.frame.taken.length s.rli.frame.cells = true ∧ (!s.rli.lineLow) = false ∧
          s.svc.attn = attnNow s) ∧
      (let s : State :=
          { inFrame (some leaving9) up with
            rli := { (inFrame (some leaving9) up).rli with
              frame := { taken := [0x29, 0x40], cells := 3, shift := 0, check := 0x31 } } }
       frameCell leave9 s.rli.frame.taken.length s.rli.frame.cells = (!(!s.rli.lineLow)) ∧
         ¬(s.rli.frame.taken.length < 2) ∧ s.lnk.attempts < 3 ∧ s.svc.attn = attnNow s ∧
         ({ s.lnk with attempts := 3 } : Link).attempts = 3) ∧
      (∀ taken ∈ [([0x29], 0x4A), ([0x29], 0x40), ([0x29, 0x40], 0x31)],
        let s : State :=
          { inFrame none up with
            rli := { (inFrame none up).rli with
              lineLow := false, lowTime := none
              frame := { taken := taken.1, cells := 9, shift := taken.2, check := crc taken.1 } } }
        s.rli.frame.cells = 9 ∧ (!s.rli.lineLow) = true ∧ s.rli.tx = none ∧ s.rli.frame.check = crc s.rli.frame.taken ∧
          s.rli.lowTime = none ∧ s.rli.driver = none ∧ s.svc.attn = attnNow s) ∧
      (8 < frameLengthField [0x29, 0x4A] ∧ frameLengthField [0x29, 0x40] ≤ 8 ∧
        ([0x29, 0x40, 0x31] : List Byte).length = 3 + frameLengthField [0x29, 0x40, 0x31]) := by decide +kernel

theorem witness_RisingEdgeAndOwnCellEdges :
    ((inFrame none up).rli.lineLow = true ∧ up.sup.cfg.rxFilter = true ∧ 2 ≤ 5 ∧ 1 < 2) ∧
      (∀ b low : Bool,
        let s : State :=
          { inFrame (some leaving9) up with
            rli := { (inFrame (some leaving9) up).rli with lineLow := low, cell := some { age := 20, sampled := b } } }
        s.rli.rx = .inFrame ∧ s.rli.tx = some leaving9 ∧ s.rli.cell = some { age := 20, sampled := b } ∧
          s.rli.lineLow = low) := by decide +kernel

theorem witness_CellsReceivedMakeTheGoodFrame :
    ∀ bytes ∈ [leave9, status12],
      up.rli.rx = .idle ∧ up.rli.tx = none ∧ up.rli.lineLow = false ∧ up.rli.driver = none ∧ standingOffer up = none ∧
        up.svc.attn = attnNow up ∧ frameLengthField bytes ≤ 8 ∧ bytes.length = 3 + frameLengthField bytes := by decide +kernel

theorem witness_FullQueueReplacesItsNewest :
    up.lnk.queue.length < 4 ∧
      (let q : List EventFrame := [.clear 2, .drip 2 .alert 0 0, .clear 2, .leave]
       let s : State := { up with lnk := { up.lnk with queue := q } }
       s.lnk.queue = q ∧ s.lnk.queue.length ≤ 4 ∧ s.lnk.queue ≠ []) := by decide +kernel

theorem witness_FrameBeginsOnlyByPermission :
    let s : State := { up with lnk := { up.lnk with queue := [.leave] } }
    s.rli.tx = none ∧ ∃ t, exec .attemptStart s = .next t ∧ t.rli.tx = some leaving9 ∧ leaving9.kind = .event := ⟨rfl, (attemptStart { up with lnk := { up.lnk with queue := [.leave] } }), rfl, by decide +kernel, rfl⟩

theorem witness_PeerFrameUpdatesItsEntry :
    ∀ bytes ∈ [status12, frameBytes 0 12 3 [2], frameBytes 1 12 4 [], frameBytes 2 12 5 [], frameBytes 0 12 3 [16]],
      let s := inFrame none (withRoster [entryOf 4 .isolated 0, entryOf 12 .active 1200])
      PeerFrameHeard s bytes ∧ findEntry (rxFrameOf bytes).src s.ros.entries = some (entryOf 12 .active 1200) ∧
        s.ros.entries.Pairwise (fun a b => a.address.toNat < b.address.toNat) := by
  unfold PeerFrameHeard; decide +kernel

theorem witness_PeerFrameAdmitsOrDeclines :
    (∀ bytes ∈ [status12, frameBytes 0 12 3 [2], frameBytes 2 12 15 [], drip12 16],
        let s := inFrame none (withRoster [entryOf 4 .isolated 0])
        PeerFrameHeard s bytes ∧ findEntry (rxFrameOf bytes).src s.ros.entries = none ∧ s.ros.entries.length < 24) ∧
      (let s := inFrame none (withRoster (((List.range 26).filter (fun n => n ≠ 9 ∧ n ≠ 12)).map fun n => entryOf (BitVec.ofNat 5 n) .active 0))
       PeerFrameHeard s status12 ∧ findEntry (rxFrameOf status12).src s.ros.entries = none ∧ s.ros.entries.length = 24) := by
  unfold PeerFrameHeard; decide +kernel

theorem witness_DripFrameReachesTheThreeBlocks :
    (∀ seg ∈ [0, 2, 15], ∀ m ∈ [Mode.active, Mode.parked],
        let s := inFrame none (inMode m)
        PeerFrameHeard s (drip12 seg) ∧ (rxFrameOf (drip12 seg)).kind = 2 ∧
          ((rxFrameOf (drip12 seg)).payload.getD 0 0).toNat ≤ 15 ∧ findEntry (rxFrameOf (drip12 seg)).src s.ros.entries = none ∧
          s.ros.entries.length < 24 ∧ s.dsu.scan = .idle) ∧
      (let s := inFrame none (withRoster [entryOf 4 .isolated 0, entryOf 12 .active 1200])
       PeerFrameHeard s (drip12 2) ∧ findEntry (rxFrameOf (drip12 2)).src s.ros.entries = some (entryOf 12 .active 1200)) ∧
      (let s := inFrame none (withRoster (((List.range 26).filter (fun n => n ≠ 9 ∧ n ≠ 12)).map fun n => entryOf (BitVec.ofNat 5 n) .active 0))
       PeerFrameHeard s (drip12 2) ∧ findEntry (rxFrameOf (drip12 2)).src s.ros.entries = none ∧ 24 ≤ s.ros.entries.length) ∧
      (up.sup.ownSeg = some 2 ∧ up.sup.cfg.units[4].arming = .afterPeerDrip ∧ up.wch.units[4].status = .disarmed ∧
        isEvaluating up.sup.mode = true ∧ isEvaluating (inMode .parked).sup.mode = false) := by
  unfold PeerFrameHeard; decide +kernel

theorem witness_EntryAgeingMarksAndRemoves :
    ∀ n ∈ [3, 8],
      let e : Entry := { entryOf 12 .isolated 0 with silence := 1000 * (n * 250) }
      let s := withRoster [entryOf 4 .isolated 0, e]
      s.ros.entries.Pairwise (fun a b => a.address.toNat < b.address.toNat) ∧ findEntry 12 s.ros.entries = some e ∧
        e.liveness = .live ∧ e.silence = 1000 * (n * e.period) ∧ s.sup.mode = .active ∧ s.sup.cfg.quorum ≠ 0 := by decide +kernel

theorem witness_SentFramesReadBackAtAPeer :
    ∀ m ∈ [(Mode.active, PeerMode.active), (.contained, .contained), (.isolated, .isolated)],
      let s := inMode m.1
      (s.sup.mode = .active ∧ m.2 = .active ∨ s.sup.mode = .contained ∧ m.2 = .contained ∨
        s.sup.mode = .isolated ∧ m.2 = .isolated) ∧
      s.shr.demand ≤ 2000 ∧ s.msu.flow ≤ 2000 ∧ 2 ≤ s.sup.cfg.pAnnUnits ∧ s.sup.cfg.pAnnUnits ≤ 20 := by decide +kernel

theorem witness_ScanTriggersStartOrWait :
    (up.dsu.scanTimer = some 1000000 ∧ up.dsu.scan = .idle ∧ up.clk.held = false ∧ up.sup.mode = .active) ∧
      (referencing.dsu.scanTimer = some 1000000 ∧ referencing.dsu.scan ≠ .idle) ∧
      ((inMode .parked).clk.held = false ∧ (inMode .parked).sup.mode = .parked) := by decide +kernel

theorem witness_ReferencePhaseEndStartsTheSensorPhases :
    referencing.dsu.scan = .reference ∧ referencing.dsu.timeBase = some 0 ∧ 1 ≤ 0 + 1048574 ∧ 0 + 1048574 ≤ 1048574 ∧
      1048575 ≤ 0 + 1048575 := by decide +kernel

theorem witness_ReferenceFaultEndsTheScan :
    (referencing.dsu.scan = .reference ∧ ¬(referencing.sup.mode = .joining ∧ referencing.sup.dryCheck = .pending)) ∧
      (let s := joiningState .passed (some 1)
       s.dsu.scan = .reference ∧ s.sup.mode = .joining ∧ ¬(s.sup.mode = .joining ∧ s.sup.dryCheck = .pending)) ∧
      (∀ n ∈ [0, 1, 2], ∀ timer ∈ [some 1, none],
        let s : State :=
          { joiningState .pending timer with
            sup := { (joiningState .pending timer).sup with joinFaults := n } }
        s.dsu.scan = .reference ∧ s.sup.mode = .joining ∧ s.sup.dryCheck = .pending ∧ s.sup.joinFaults = n ∧
          ¬(∃ u : Fin 8, s.wch.units[u].status = .fired ∧ s.sup.cfg.units[u].action = .isolate) ∧
          s.sup.joinExpired = timer.isNone) ∧
      (let s : State := { joiningState .pending (some 1) with wch := (withUnit 0 (firedUnit 3 600)).wch }
       s.sup.mode = .joining ∧ s.sup.dryCheck = .pending ∧
         ∃ u : Fin 8, s.wch.units[u].status = .fired ∧ s.sup.cfg.units[u].action = .isolate) := by decide +kernel

theorem witness_ZoneReadingIsFormedAndDelivered :
    (∀ z : Fin 4, (sensing z).dsu.scan = .sensor z ∧ (sensing z).dsu.counter = some 0 ∧
        ((sensing z).sup.cfg.endZone.val ≤ z.val ↔ z = 3)) ∧
      0 + 1048575 ≤ 1048575 ∧ ¬((sensing 3).sup.mode = .joining ∧ (sensing 3).sup.dryCheck = .pending) ∧
      (let s : State :=
        { sensing 0 with sup := { up.sup with cfg := { defaultConfig with units := Vector.replicate 8 (defaultUnit 7) } } }
       ∀ u : Fin 8, s.sup.cfg.units[u].source ≠ .zone 0) ∧
      ((joiningWet 2).dsu.scan = .sensor 0 ∧ (joiningWet 2).sup.cfg.endZone.val ≤ (0 : Fin 4).val ∧
        (joiningWet 2).sup.mode = .joining ∧ (joiningWet 2).sup.dryCheck = .pending ∧
        (deliverReading (countedReading (joiningWet 2) 0 (0 + 3000)) (joiningWet 2)).sup.mode = .isolated) := by decide +kernel

theorem witness_DryCheckResolvesTheJoin :
    (let s : State := { joiningState .pending (some 1) with dsu := (sensing 3).dsu }
     s.dsu.scan = .sensor 3 ∧ s.dsu.counter = some 0 ∧ 0 + 410 ≤ 1048575 ∧ s.sup.cfg.endZone.val ≤ (3 : Fin 4).val ∧
       (deliverReading (countedReading s 3 (0 + 410)) s).sup.mode = .joining ∧
       (deliverReading (countedReading s 3 (0 + 410)) s).sup.dryCheck = .pending) ∧
      ((joiningWet 1).dsu.scan = .sensor 0 ∧ (joiningWet 1).dsu.counter = some 0 ∧
        (joiningWet 1).sup.cfg.endZone.val ≤ (0 : Fin 4).val ∧
        (deliverReading (shortReading (joiningWet 1) 0) (joiningWet 1)).sup.mode = .joining ∧
        (deliverReading (shortReading (joiningWet 1) 0) (joiningWet 1)).sup.dryCheck = .pending) ∧
      (let s := joiningWet 2
       let d := deliverReading (countedReading s 0 (0 + 3000)) s
       s.sup.mode = .joining ∧ s.sup.dryCheck = .pending ∧ s.sup.cfg.units[0].action = .isolate ∧ isFired s 0 = false ∧
         isFired d 0 = true ∧ d.sup.mode ≠ .joining) ∧
      (let s := joiningState .pending none
       s.sup.mode = .joining ∧ s.sup.dryCheck = .pending ∧ s.sup.joinExpired = true ∧
         (∀ u : Fin 8, qualifiesInDryCheck s u = false) ∧ (∀ u : Fin 8, isFiredIsolate s u = false)) ∧
      (let wet : ZoneReading := { zone := 0, ns := 3000, index := 732, state := .normal, scan := 1, time := 20 }
       let s : State :=
        { joiningState .pending (some 1) with
          dsu := { (joiningState .pending (some 1)).dsu with latest := #v[some wet, none, none, none] } }
       s.sup.mode = .joining ∧ s.sup.dryCheck = .pending ∧ qualifiesInDryCheck s 0 = true ∧ isFired s 0 = false ∧
         s.cap.frozen = false) := by decide +kernel

theorem witness_AnalogScanAppliesItsCodesTogether :
    (up.msu.acqTimer = some 50000 ∧ up.msu.adc = .idle) ∧
      (let s : State := { up with msu := { up.msu with adc := .converting 2, codes := [16, 4079] } }
       s.msu.adc = .converting 2 ∧ (2 : Fin 4).val < 3) ∧
      ((converting 15 16 4079).msu.adc = .converting 3 ∧ (converting 15 16 4079).msu.codes = [15, 16, 4079] ∧
        (15#12).toNat < 16 ∧ 16 ≤ (16#12).toNat ∧ (4079#12).toNat ≤ 4079 ∧ 4079 < (4080#12).toNat ∧
        (converting 15 16 4079).sup.mode = .active ∧
        ({ converting 15 16 4079 with sup := (inMode .parked).sup } : State).sup.mode = .parked) := by decide +kernel

theorem witness_FlowEdgesTimeThePeriods :
    loadingState.sup.mode = .starting ∧ (up.sup.mode ≠ .starting ∧ up.msu.edge = .awaitFirst) ∧
      (∀ w ∈ [[], [2250], [2250, 2222], [2301, 2250, 2222]],
        (timing w).msu.edge = .timing ∧ (timing w).msu.period = some 0 ∧ (timing w).msu.window = w) ∧
      (2250 ∈ [2250, 2222, 2301] ∧ ([2250, 2222, 2301].filter (fun v => decide (v < 2250))).length ≤ 1 ∧
        ([2250, 2222, 2301].filter (fun v => decide (2250 < v))).length ≤ 1) ∧
      0 + 0 = 0 ∧ 1 ≤ 0 + 500000 ∧ 0 + 500000 ≤ 500000 := by decide +kernel

theorem witness_ControlStepComputesTheFigures :
    let c : ConfigSet := defaultConfig
    let s : State := withValve (valveAt .opened)
    (s.sup.cfg = c ∧ (∃ u : Fin 8, c.units[u].source = .flowExcess) ∧ c.dmin ≤ c.dmax ∧ c.dmin ≤ s.shr.demand ∧
      s.shr.demand ≤ c.dmax ∧ s.vlv.valve = .opened ∧ s.sup.mode = .active) ∧
      ((joiningState .passed none).sup.mode = .joining ∧ (joiningState .passed none).sup.dryCheck = .passed ∧
        (joiningState .pending none).sup.dryCheck = .pending) ∧
      (let m : MeasurementSet :=
        { supplyTemp := none, supplyValid := false, returnTemp := some 478, returnValid := true, deltaP := none,
          flow := 100, known := true, time := 0 }
       (stepShare m s).grant = 650 ∧ m.known = true ∧ (c.deadband : Int) < ((stepShare m s).grant : Int) - m.flow) := by decide +kernel

theorem witness_ShareNeverExceedsDemandOrCapacity :
    600 + 5400 ≤ defaultConfig.capacity ∧ defaultConfig.capacity < 600 + 5401 := by decide +kernel

theorem witness_BaseDutyRisesWithTheGrant :
    ConfigInRange from100 ∧ 1 ≤ 100 ∧ 100 ≤ from100.flowPoints[0] ∧ from100.flowPoints[8] ≤ 2000 ∧
      from100.flowPoints[0] < 101 ∧ 101 < from100.flowPoints[8] ∧ 101 < from100.flowPoints[1] := by
  refine ⟨?_, by decide +kernel⟩
  unfold ConfigInRange UnitInRange; decide +kernel

theorem witness_ComparisonsMeetTheirThresholds :
    (defaultUnit 0).comparison = .above ∧ (defaultUnit 5).comparison = .below ∧
      ({ defaultUnit 0 with comparison := .outside, low := 600 } : UnitConfig).high ≤ 600 + 1 ∧
      ({ defaultUnit 0 with comparison := .inside } : UnitConfig).comparison = .inside ∧
      (defaultUnit 0).source ≠ .peerDrip ∧ ({ defaultUnit 0 with source := .peerDrip } : UnitConfig).source = .peerDrip := by decide +kernel

theorem witness_UnitTakesSamplesByItsStateAndItsWindowDisarmsIt :
    (qualifies up.sup.cfg.units[0] 600 = true ∧ qualifies up.sup.cfg.units[0] 599 = false ∧
        up.wch.units[0].count + 1 < up.sup.cfg.units[0].countN ∧ up.sup.cfg.units[0].countMode = .consecutive ∧
        up.sup.cfg.units[0].latch = .latched ∧ up.sup.cfg.units[3].latch = .selfClear ∧
        up.wch.units[3].clear + 1 < up.sup.cfg.units[3].clearCount) ∧
      (∀ m ∈ [Mode.active, Mode.joining, Mode.isolated, Mode.conflict],
        let s : State :=
          { inMode m with
            wch := (withUnit 0 { status := .armed, count := 2, clear := 0, window := none, last := some 640 }).wch }
        s.sup.cfg.units[0].countN ≤ s.wch.units[0].count + 1 ∧ s.sup.cfg.units[0].action = .isolate ∧ s.sup.mode = m ∧
          isEvaluating s.sup.mode = true) ∧
      (let s := withUnit 3 { status := .armed, count := 3, clear := 0, window := none, last := none }
       qualifies s.sup.cfg.units[3] 400 = true ∧ s.sup.cfg.units[3].countN ≤ s.wch.units[3].count + 1 ∧
         s.sup.cfg.units[3].action = .alert) ∧
      (up.sup.cfg.units[7].action = .note ∧ up.sup.cfg.units[5].action = .chain ∧
        ({ defaultUnit 3 with action := .freeze } : UnitConfig).action = .freeze ∧ isEvaluating (inMode .parked).sup.mode = false ∧
        up.sup.cfg.units[0].source = .zone 0 ∧ ∀ k : Fin 8, k ≠ 0 → up.sup.cfg.units[k].source ≠ .zone 0) ∧
      (up.sup.cfg.units[6].arming = .afterUnit 5 ∧ up.wch.units[6].status = .disarmed) ∧
      (∀ m ∈ [Mode.active, Mode.parked],
        let s : State :=
          { inMode m with wch := (withUnit 4 { status := .armed, count := 0, clear := 0, window := some 9, last := none }).wch }
        s.wch.units[4].status = .armed ∧ s.wch.units[4].window = some 9 ∧ s.sup.mode = m) := by decide +kernel

theorem witness_ValveRequestsActByState :
    ∀ v : ValveState, v ∈ [.closed, .opening, .opened, .closing, .stuck] ∧ (withValve (valveAt v)).vlv.valve = v := by
  intro v; cases v <;> decide +kernel

theorem witness_PullInPeriodAndStrokeMoveTheValve :
    (withValve (valveAt .opening)).vlv.valve = .opening ∧ (withValve (valveAt .opened)).vlv.valve = .opened ∧
      (∀ f ∈ [8, 9], ∀ b : Bool,
        let s : State :=
          { withValve { valveAt .closing with reopen := b } with msu := { up.msu with known := true, flow := f } }
        s.vlv.valve = .closing ∧ s.vlv.reopen = b ∧ (s.msu.flow ≤ s.sup.cfg.leakBy ↔ f = 8)) := by decide +kernel

theorem witness_ReadRequestsSnapshotTheirItems :
    (up.clk.held = false ∧ up.sup.ownAddr = some 9 ∧ up.sup.ownSeg = some 2 ∧ up.cap.frozen = false ∧
        8 ≤ (8#8).toNat ∧ up.ros.entries.length ≤ (0#8).toNat) ∧
      (withRoster [entryOf 12 .active 0]).ros.entries[(0#8).toNat]? = some (entryOf 12 .active 0) ∧
      (let r : Record := { time := 258, body := .event .holdoff }
       let c : Capture := { up.cap with frozen := true, ring := [r] }
       c.frozen = true ∧ c.ring[(0#8).toNat]? = some r ∧ c.ring.length ≤ (1#8).toNat) := by decide +kernel

theorem witness_ReleaseAndAcknowledgeReturnTheUnits :
    (up.clk.held = false ∧ up.sup.mode ≠ .isolated) ∧
      (let s : State := { inMode .isolated with wch := (withUnit 0 (firedUnit 3 600)).wch }
       s.sup.mode = .isolated ∧ s.wch.units[0].status = .fired ∧ s.sup.cfg.units[0].action = .isolate ∧
         s.sup.cfg.units[0].source ≠ .peerDrip ∧ s.sup.cfg.units[0].source ≠ .flowExcess ∧
         s.wch.units[0].last = some 600 ∧ meetsComparison s.sup.cfg.units[0] 600 = true) ∧
      ((inMode .isolated).sup.mode = .isolated ∧ (inMode .isolated).clk.held = false ∧
        ∀ u : Fin 8, (inMode .isolated).wch.units[u].status ≠ .fired) ∧
      ((withUnit 3 (firedUnit 4 500)).wch.units[3].status = .fired ∧ up.sup.cfg.units[3].action ≠ .isolate) := by decide +kernel

theorem witness_FreezeAndResumeTheCapture :
    up.clk.held = false ∧ up.cap.frozen = false ∧
      (let s : State := { up with cap := { up.cap with frozen := true, reason := .service, time := some 5 } }
       s.clk.held = false ∧ s.cap.frozen = true) := by decide +kernel

theorem witness_ParkAndUnpark :
    (up.clk.held = false ∧ up.sup.mode = .active ∧ up.lnk.queue.length < 4 ∧ up.sup.mode ≠ .parked) ∧
      ((sensing 1).clk.held = false ∧ (sensing 1).sup.mode = .active ∧ (sensing 1).dsu.scan ≠ .idle) ∧
      ((inMode .parked).clk.held = false ∧ (inMode .parked).sup.mode = .parked ∧ (inMode .parked).dsu.scan = .idle) := by decide +kernel

theorem witness_BadRequestAndServiceRead :
    (up.clk.held = false ∧ up.svc.pendingAnswer = none) ∧
      (let s : State := { up with svc := { up.svc with pendingAnswer := some { result := .ok, item := [1, 2] } } }
       s.clk.held = false ∧ s.svc.pendingAnswer = some { result := .ok, item := [1, 2] }) ∧
      (State.reset.clk.held = true ∧ (0 : BitVec 7) ≠ 0x4E ∧ ([true, false, true] : List Bool).length < 8) := by decide +kernel

theorem witness_FrozenCaptureStays :
    let s : State := { up with cap := { up.cap with frozen := true, reason := .service, time := some 5 } }
    s.cap.frozen = true ∧ Instr.park ≠ .resume ∧ Instr.park ≠ .reset ∧ ∃ t, exec .park s = .next t := ⟨rfl, by decide, by decide, _, rfl⟩

/-! ### Of the invariants: `up` meets every premise, and a step runs from it -/

theorem witness_StartingSafe :
    StartingSafe up := by
  unfold StartingSafe; decide +kernel

theorem witness_ModeSafe :
    ModeSafe up := by
  unfold ModeSafe; decide +kernel

theorem witness_LinkSafe :
    LinkSafe up := by
  refine ⟨rfl, by decide +kernel, trivial, by decide, by decide, by decide, by decide, by decide, by decide +kernel, ?_⟩
  exact ⟨by show (160 : Nat) ≤ 160; decide, rfl⟩

theorem witness_RosterSafe :
    RosterSafe (withRoster [entryOf 4 .isolated 0, entryOf 12 .active 1200]) := by
  unfold RosterSafe EntryInRange; decide +kernel

theorem witness_DripSafe :
    DripSafe up := by
  unfold DripSafe; simp [up, State.reset]

theorem witness_MeasureSafe :
    MeasureSafe up := by
  unfold MeasureSafe; simp [up, State.reset]

theorem witness_WatchSafe :
    WatchSafe up := by
  unfold WatchSafe UnitSafe; decide +kernel

theorem witness_ShareSafe :
    ShareSafe up := by
  unfold ShareSafe; decide +kernel

theorem witness_ValveSafe :
    ValveSafe up := by
  unfold ValveSafe; decide +kernel

theorem witness_CaptureSafe :
    CaptureSafe up := by
  unfold CaptureSafe; decide +kernel

theorem witness_FlagsSafe :
    FlagsSafe up := by
  unfold FlagsSafe; decide +kernel

theorem witness_StartingIsKept :
    StartingSafe up ∧ ∃ t, step up = .next t := ⟨witness_StartingSafe, _, rfl⟩

theorem witness_ModesAreKept :
    let s := withRoster [entryOf 4 .isolated 0, entryOf 12 .active 1200]
    StartingSafe s ∧ RosterSafe s ∧ ModeSafe s ∧ ∃ t, step s = .next t := by
  refine ⟨?_, witness_RosterSafe, ?_, _, rfl⟩
  · unfold StartingSafe; decide +kernel
  · unfold ModeSafe; decide +kernel

theorem witness_LinkIsKept :
    StartingSafe up ∧ ModeSafe up ∧ LinkSafe up ∧ ∃ t, step up = .next t := ⟨witness_StartingSafe, witness_ModeSafe, witness_LinkSafe, _, rfl⟩

theorem witness_RosterIsKept :
    let s := withRoster [entryOf 4 .isolated 0, entryOf 12 .active 1200]
    StartingSafe s ∧ ConfigSafe s ∧ RosterSafe s ∧ ∃ t, step s = .next t := by
  refine ⟨?_, witness_ConfigInRange, witness_RosterSafe, _, rfl⟩
  unfold StartingSafe; decide +kernel

theorem witness_DripSensingIsKept :
    StartingSafe up ∧ ConfigSafe up ∧ DripSafe up ∧ ∃ t, step up = .next t := ⟨witness_StartingSafe, witness_ConfigInRange, witness_DripSafe, _, rfl⟩

theorem witness_ShareIsKept :
    StartingSafe up ∧ ConfigSafe up ∧ ShareSafe up ∧ ∃ t, step up = .next t := ⟨witness_StartingSafe, witness_ConfigInRange, witness_ShareSafe, _, rfl⟩

theorem witness_CaptureIsKept :
    StartingSafe up ∧ ConfigSafe up ∧ CaptureSafe up ∧ ∃ t, step up = .next t := ⟨witness_StartingSafe, witness_ConfigInRange, witness_CaptureSafe, _, rfl⟩

theorem witness_MeasurementIsKept :
    ConfigSafe up ∧ MeasureSafe up ∧ ∃ t, step up = .next t := ⟨witness_ConfigInRange, witness_MeasureSafe, _, rfl⟩

theorem witness_WatchUnitsAreKept :
    ConfigSafe up ∧ WatchSafe up ∧ ∃ t, step up = .next t := ⟨witness_ConfigInRange, witness_WatchSafe, _, rfl⟩

theorem witness_ValveOutputsAreKept :
    ValveSafe up ∧ ∃ t, step up = .next t := ⟨witness_ValveSafe, _, rfl⟩

theorem witness_FlagsAreKept :
    FlagsSafe up ∧ ∃ t, step up = .next t := ⟨witness_FlagsSafe, _, rfl⟩

end Sys2Proof.Tests
end

