-- ==== Sys2Proof/Proofs/ImageCheck.lean ====
section
/-! PROOF. The image check of R3: what `imageGood` tests, what a load gives for each of its two outcomes, and O5 from these. -/

namespace Sys2Proof.Machine

/-- The checksum's running total is the sum of the first 220 bytes. -/
theorem imageSum_eq_sum (image : List Byte) : imageSum image = ((List.range 220).map (imageByte image)).sum := by
  rw [imageSum, List.sum_eq_foldl, List.foldl_map]

/-- The image is good exactly when format code, length and checksum all stand as R3 asks. -/
theorem imageGood_iff (image : List Byte) :
    imageGood image = true ↔
      imageByte image 0 = 0x6B ∧ imageByte image 1 = 222 ∧
        256 * imageByte image 220 + imageByte image 221 = ((List.range 220).map (imageByte image)).sum % 65536 := by
  simp only [imageGood, Bool.and_eq_true, beq_iff_eq, and_assoc, imageU16, imageSum_eq_sum]

/-- An image that fails the check loads as the default set. -/
theorem loadImage_of_not_imageGood {image : List Byte} (bad : ¬imageGood image = true) :
    loadImage image = { cfg := defaultConfig, defaulted := true, adjusted := false } :=
  if_neg bad

/-- An image that passes the check is taken field by field and then repaired. -/
theorem loadImage_of_imageGood {image : List Byte} (good : imageGood image = true) :
    loadImage image =
      { cfg := repair (testFields image).val, defaulted := false
        adjusted := (testFields image).bad || decide (repair (testFields image).val ≠ (testFields image).val) } :=
  if_pos good

/-- A memory that leaves MISO high reads 0xFF at byte 0, which is not the format code (R3). -/
theorem not_imageGood_absent : ¬imageGood (List.replicate 222 0xFF) = true := by
  intro good
  obtain ⟨format, -, -⟩ := (imageGood_iff _).1 good
  exact absurd format (by decide)

/-- Settles O5, by the two outcomes of the image check. -/
theorem imageCheckDefaultsTheWholeSet : Obligations.ImageCheckDefaultsTheWholeSet := by
  unfold Obligations.ImageCheckDefaultsTheWholeSet
  refine ⟨fun image failing => ?_, fun image format length checksum => ?_, ?_⟩
  · refine loadImage_of_not_imageGood fun good => ?_
    obtain ⟨format, length, checksum⟩ := (imageGood_iff image).1 good
    obtain badFormat | badLength | badChecksum := failing
    · exact badFormat format
    · exact badLength length
    · exact badChecksum checksum
  · have good : imageGood image = true := (imageGood_iff image).2 ⟨format, length, checksum⟩
    rw [loadImage_of_imageGood good]
    exact ⟨rfl, rfl⟩
  · exact loadImage_of_not_imageGood not_imageGood_absent

end Sys2Proof.Machine
end

section
/-! PROOF. The outgoing event queue of R43 and R44: how a frame joins below 4 entries and at 4, and O22 from these. -/

namespace Sys2Proof.Machine

/-- Below 4 entries a frame joins as the newest (R43). -/
theorem enqueueFrame_of_length_lt (f : EventFrame) {q : List EventFrame} (room : q.length < 4) :
    enqueueFrame f q = q ++ [f] :=
  if_pos room

/-- A full queue gives up its newest entry for the frame and keeps the three older ones in order (R44). -/
theorem enqueueFrame_of_full (f a b c d : EventFrame) : enqueueFrame f [a, b, c, d] = [a, b, c, f] := rfl

/-- The next frame to be sent is the same before and after another frame is queued. -/
theorem enqueueFrame_head? (f : EventFrame) {q : List EventFrame} (nonempty : q ≠ []) :
    (enqueueFrame f q).head? = q.head? := by
  obtain ⟨g, rest, rfl⟩ := List.exists_cons_of_ne_nil nonempty
  obtain ⟨rest', queued⟩ := enqueueFrame_head f g rest
  rw [queued, List.head?_cons, List.head?_cons]

/-- Settles O22: each clause is a fact about `enqueueFrame`, which is all that queueing an event does to the state. -/
theorem fullQueueReplacesItsNewest : Obligations.FullQueueReplacesItsNewest := by
  unfold Obligations.FullQueueReplacesItsNewest
  intro s f
  rw [queueEvent_lnk]
  refine ⟨fun room => ?joins, fun a b c d full => ?replaces, fun _ => ?depth, fun nonempty => ?head, ?frame⟩
  case joins => exact enqueueFrame_of_length_lt f room
  case replaces =>
    show enqueueFrame f s.lnk.queue = [a, b, c, f]
    rw [full, enqueueFrame_of_full]
  case depth => exact enqueueFrame_length f s.lnk.queue
  case head => exact enqueueFrame_head? f nonempty
  case frame => rfl

end Sys2Proof.Machine
end

section
/-! PROOF. A zone reading (R77 to R83): what a sample changes at the drip sensing unit, how a scan ends, what follows the delivery of a
reading, and O32 from these. -/

namespace Sys2Proof.Machine

variable (s : State)

/-! ## A sample at the drip sensing unit: of its fields only the scan timer moves, and that by an entry to ISOLATED (R85) -/

/-- The drip sensing unit with its scan timer left out of account. -/
def DripUnit.withoutTimer (d : DripUnit) : DripUnit := { d with scanTimer := none }

theorem DripUnit.eq_of_withoutTimer_eq {d e : DripUnit} (same : d.withoutTimer = e.withoutTimer) :
    d = { e with scanTimer := d.scanTimer } :=
  congrArg (fun x : DripUnit => { x with scanTimer := d.scanTimer }) same

@[simp] theorem changeMode_withoutTimer (m : Mode) : (changeMode m s).dsu.withoutTimer = s.dsu.withoutTimer := by
  rw [changeMode_dsu]
  split
  · rfl
  · split <;> rfl

@[simp] theorem evalContainment_withoutTimer : (evalContainment s).dsu.withoutTimer = s.dsu.withoutTimer := by
  obtain ⟨stays, -⟩ | ⟨contains, -⟩ | ⟨reopens, -⟩ := evalContainment_cases s
  · rw [stays]
  · rw [contains, changeMode_withoutTimer]
  · rw [reopens, changeMode_withoutTimer]

@[simp] theorem enterIsolated_withoutTimer : (enterIsolated s).dsu.withoutTimer = s.dsu.withoutTimer := by
  simp [enterIsolated]

@[simp] theorem isolateAction_withoutTimer : (isolateAction s).dsu.withoutTimer = s.dsu.withoutTimer := by
  obtain ⟨-, sending⟩ | ⟨-, joining⟩ | ⟨-, isolated⟩ | ⟨-, conflict⟩ | ⟨-, still⟩ := isolateAction_cases s
  · rw [sending, enterIsolated_withoutTimer]
  · rw [joining, enterIsolated_withoutTimer, failJoin_dsu]
  · rw [isolated, queueDrip_dsu, closeRequest_dsu]
  · rw [conflict, closeRequest_dsu]
  · rw [still]

@[simp] theorem runAction_withoutTimer (u : Fin 8) : (runAction u s).dsu.withoutTimer = s.dsu.withoutTimer := by
  unfold runAction
  cases s.sup.cfg.units[u].action with
  | note => rfl
  | chain => rfl
  | alert => dsimp only; split <;> simp
  | isolate => simp
  | freeze => simp

@[simp] theorem fireUnit_withoutTimer (u : Fin 8) : (fireUnit u s).dsu.withoutTimer = s.dsu.withoutTimer := by
  simp [fireUnit]

@[simp] theorem countSample_withoutTimer (u : Fin 8) (v : Int) : (countSample u v s).dsu.withoutTimer = s.dsu.withoutTimer := by
  simp only [countSample]
  split
  · split
    · rw [fireUnit_withoutTimer]
    · rw [mapUnit_dsu]
  · split
    · rw [mapUnit_dsu]
    · rfl

@[simp] theorem unitTakesSample_withoutTimer (a : UnitStatus) (u : Fin 8) (v : Int) :
    (unitTakesSample a u v s).dsu.withoutTimer = s.dsu.withoutTimer := by
  cases a <;> simp [unitTakesSample]

/-- A sample leaves the drip sensing unit as it is, the scan timer aside. -/
theorem deliverSample_dsu (src : Source) (v : Int) :
    (deliverSample src v s).dsu = { s.dsu with scanTimer := (deliverSample src v s).dsu.scanTimer } := by
  refine DripUnit.eq_of_withoutTimer_eq ?_
  unfold deliverSample
  split
  · generalize allUnits = units
    refine foldl_keeps (fun t => t.dsu.withoutTimer) _ (fun t u => ?_) _ s
    split
    · rw [unitTakesSample_withoutTimer]
    · rfl
  · rfl

/-- A sample that no unit watches changes nothing. -/
theorem deliverSample_unwatched {src : Source} (v : Int) (unwatched : ∀ u : Fin 8, s.sup.cfg.units[u].source ≠ src) :
    deliverSample src v s = s := by
  unfold deliverSample
  split
  · exact List.foldl_fixed' (fun u => if_neg (unwatched u)) allUnits
  · rfl

/-! ## The end of a scan (R83) -/

/-- The scan timer at the end of a scan: in JOINING started where it is stopped (R85). -/
def scanTimerAtEnd : Option Nat :=
  if s.sup.mode = .joining then some (s.dsu.scanTimer.getD (1000 * s.sup.cfg.scanPeriod)) else s.dsu.scanTimer

variable {s}

theorem endScan_of_no_rescan (noRescan : s.dsu.rescan = false) :
    endScan s =
      { s with dsu := { s.dsu with scan := .idle, counter := none, timeBase := none, scanTimer := scanTimerAtEnd s } } := by
  by_cases joining : s.sup.mode = .joining <;>
    simp [endScan, scanTimerAtEnd, State.mapDsu, startScanTimer, msec, noRescan, joining]

theorem endScan_of_rescan (rescan : s.dsu.rescan = true) :
    endScan s =
      { s with
        dsu :=
          { s.dsu with
            rescan := false, scan := .reference, counter := some 0, timeBase := some 0, scanTimer := scanTimerAtEnd s
            scanNumber := s.dsu.scanNumber + 1, trefBefore := s.dsu.tref, refFaultsBefore := s.dsu.refFaults } } := by
  by_cases joining : s.sup.mode = .joining <;>
    simp [endScan, scanTimerAtEnd, State.mapDsu, startScanTimer, beginScan, msec, rescan, joining]

/-! ## The flags after a delivery (R19, R173) -/

/-- Of the drip sensing unit SENSOR_FAULT reads the fault count and the latest readings only. -/
theorem sensorFaultNow_withDsu {dsu : DripUnit} (faults : dsu.refFaults = s.dsu.refFaults) (latest : dsu.latest = s.dsu.latest) :
    sensorFaultNow { s with dsu := dsu } = sensorFaultNow s := by
  simp only [sensorFaultNow, zoneOpen, faults, latest]

/-- A delivery ends with SENSOR_FAULT brought up to date, the command with ATTN: both then stand by the state reached, where what comes
between moves the scan on and keeps the fault count and the readings. -/
theorem flags_after_reevalSensorFault {dsu : DripUnit} (faults : dsu.refFaults = s.dsu.refFaults)
    (latest : dsu.latest = s.dsu.latest) {t : State} (reached : t = updateAttn { reevalSensorFault s with dsu := dsu }) :
    t =
      { s with
        dsu := dsu
        sup := { s.sup with sensorFault := sensorFaultNow t }
        svc := { s.svc with attn := attnNow t } } := by
  have sensorFault : sensorFaultNow t = sensorFaultNow s := by
    rw [reached]
    exact sensorFaultNow_withDsu faults latest
  rw [sensorFault, reached]
  rfl

/-! ## The end of a sensor phase (R77, R78) -/

theorem exec_sensorPhaseEnd {z : Fin 4} {b cycles : Nat} (scan : s.dsu.scan = .sensor z) (counter : s.dsu.counter = some b)
    (fits : b + cycles ≤ 1048575) :
    exec (.sensorPhaseEnd cycles) s =
      .next (updateAttn (afterSensorPhase z (deliverReading (countedReading s z (b + cycles)) s))) := by
  show Host.Outcome.next (sensorPhaseEnd cycles s) = _
  simp [sensorPhaseEnd, scan, counter, fits]

theorem exec_counterOverflow {z : Fin 4} (scan : s.dsu.scan = .sensor z) :
    exec .counterOverflow s = .next (updateAttn (afterSensorPhase z (deliverReading (shortReading s z) s))) := by
  show Host.Outcome.next (counterOverflow s) = _
  simp [counterOverflow, scan]

theorem afterSensorPhase_below {z : Fin 4} (below : z.val < s.sup.cfg.endZone.val) :
    afterSensorPhase z s = { s with dsu := startSensorPhase (z + 1) s.dsu } :=
  if_pos below

theorem afterSensorPhase_last {z : Fin 4} (last : s.sup.cfg.endZone.val ≤ z.val)
    (noDryCheck : ¬(s.sup.mode = .joining ∧ s.sup.dryCheck = .pending)) : afterSensorPhase z s = endScan s := by
  simp [afterSensorPhase, completeScan, dryCheckWaits, Nat.not_lt.mpr last, noDryCheck]

/-- Settles O32: the reading's delivery ends in `deliverSample`, which moves no more of the drip sensing unit than its scan timer; what
follows it is the next sensor phase or the end of the scan, and the two flags. -/
theorem zoneReadingIsFormedAndDelivered : Obligations.ZoneReadingIsFormedAndDelivered := by
  unfold Obligations.ZoneReadingIsFormedAndDelivered
  intro s z b cycles scan counter ns g counted short c r ending taken d delivered
  have ends : exec c s = .next (updateAttn (afterSensorPhase z (reevalSensorFault d))) := by
    obtain ⟨rfl, fits, rfl⟩ | ⟨rfl, rfl⟩ := ending
    · exact exec_sensorPhaseEnd scan counter fits
    · exact exec_counterOverflow scan
  have dsu : d.dsu = { taken.dsu with scanTimer := d.dsu.scanTimer } := deliverSample_dsu taken _ _
  have tref : d.dsu.tref = s.dsu.tref := by rw [dsu]
  have cfg : d.sup.cfg = s.sup.cfg := deliverSample_cfg taken _ _
  have arrives {e : DripUnit} {t : State} (faults : e.refFaults = d.dsu.refFaults) (latest : e.latest = d.dsu.latest)
      (reached : t = updateAttn { reevalSensorFault d with dsu := e }) : delivered t e := by
    have svc : d.svc = s.svc := deliverSample_svc taken _ _
    have flags := flags_after_reevalSensorFault faults latest reached
    rwa [svc] at flags
  refine ⟨fun below => ?next, fun last noDryCheck => ?ended, dsu, deliverSample_rli taken _ _, deliverSample_ros taken _ _,
    deliverSample_msu taken _ _, deliverSample_shr taken _ _, deliverSample_clk taken _ _, deliverSample_pending taken _ _,
    deliverSample_unwatched taken _⟩
  case next =>
    refine ⟨_, ends, arrives rfl rfl ?_⟩
    rw [← tref]
    exact congrArg updateAttn (afterSensorPhase_below (cfg ▸ below))
  case ended =>
    have ended : afterSensorPhase z (reevalSensorFault d) = endScan (reevalSensorFault d) :=
      afterSensorPhase_last (cfg ▸ last) noDryCheck
    have rescans : d.dsu.rescan = s.dsu.rescan := by rw [dsu]
    have scanNumber : d.dsu.scanNumber = s.dsu.scanNumber := by rw [dsu]
    have refFaults : d.dsu.refFaults = s.dsu.refFaults := by rw [dsu]
    refine ⟨_, ends, fun noRescan => arrives rfl rfl ?_, fun rescan => arrives rfl rfl ?_⟩
    · rw [← cfg]
      exact congrArg updateAttn (ended.trans (endScan_of_no_rescan (rescans.trans noRescan)))
    · rw [← cfg, ← tref, ← scanNumber, ← refFaults]
      exact congrArg updateAttn (ended.trans (endScan_of_rescan (rescans.trans rescan)))

end Sys2Proof.Machine
end

section
/-! PROOF. The flow meter (R99 to R102): the middle one of three periods by how many lie below and above it, what a rising edge does in
each edge state, and O35 from these. -/

namespace Sys2Proof.Machine

/-! ## The median of three (R101) -/

/-- What lies below the median lies below two of the three. -/
theorem two_above_of_lt_medianOf {a b c m : Nat} (below : m < medianOf a b c) :
    2 ≤ ([a, b, c].filter (fun v => decide (m < v))).length := by
  rw [medianOf, lt_max_iff, lt_min_iff, lt_min_iff, lt_max_iff] at below
  obtain ⟨ha, hb⟩ | ⟨ha | hb, hc⟩ := below
  · simp [List.filter_cons, ha, hb]
  · by_cases hb : m < b <;> simp [ha, hb, hc]
  · by_cases ha : m < a <;> simp [ha, hb, hc]

/-- What lies above the median lies above two of the three. -/
theorem two_below_of_medianOf_lt {a b c m : Nat} (above : medianOf a b c < m) :
    2 ≤ ([a, b, c].filter (fun v => decide (v < m))).length := by
  rw [medianOf, max_lt_iff, min_lt_iff, min_lt_iff, max_lt_iff] at above
  obtain ⟨ha | hb, ⟨ha', hb'⟩ | hc⟩ := above
  · simp [List.filter_cons, ha', hb']
  · by_cases hb : b < m <;> simp [ha, hb, hc]
  · simp [List.filter_cons, ha', hb']
  · by_cases ha : a < m <;> simp [ha, hb, hc]

/-- A value with at most one of the three below it and at most one above it is their median. -/
theorem medianOf_eq_of_filter {a b c m : Nat} (below : ([a, b, c].filter (fun v => decide (v < m))).length ≤ 1)
    (above : ([a, b, c].filter (fun v => decide (m < v))).length ≤ 1) : medianOf a b c = m := by
  refine le_antisymm (not_lt.1 fun lt => ?_) (not_lt.1 fun lt => ?_)
  · exact absurd (two_above_of_lt_medianOf lt) (by omega)
  · exact absurd (two_below_of_medianOf_lt lt) (by omega)

/-! ## A rising edge at FLOW and the end of timing (R99, R100, R102) -/

section Edges
variable {s : State} {ticks : Nat}

theorem exec_flowRisingEdge_starting (starting : s.sup.mode = .starting) : exec (.flowRisingEdge ticks) s = .next s :=
  congrArg Host.Outcome.next (if_pos starting)

theorem exec_flowRisingEdge_first (started : s.sup.mode ≠ .starting) (await : s.msu.edge = .awaitFirst) :
    exec (.flowRisingEdge ticks) s = .next { s with msu := { s.msu with edge := .timing, period := some 0 } } := by
  show Host.Outcome.next (flowRisingEdge ticks s) = _
  simp only [flowRisingEdge, if_neg started, await, State.mapMsu]

/-- An edge in TIMING while the counter still holds 0 is ignored (R100). -/
theorem exec_flowRisingEdge_zero (started : s.sup.mode ≠ .starting) (timing : s.msu.edge = .timing)
    (zero : periodAtEdge s.msu ticks = 0) : exec (.flowRisingEdge ticks) s = .next s := by
  show Host.Outcome.next (flowRisingEdge ticks s) = _
  simp only [flowRisingEdge, if_neg started, timing, zero, true_or, if_true]

/-- An edge that ends a period in 1..500,000: the window takes it, and the flow is recomputed from the window (R100). -/
theorem exec_flowRisingEdge_period {P pf : Nat} {w : List Nat} (started : s.sup.mode ≠ .starting) (timing : s.msu.edge = .timing)
    (counted : periodAtEdge s.msu ticks = P) (positive : 1 ≤ P) (bounded : P ≤ 500000)
    (window : pushPeriod P s.msu.window = w) (used : flowPeriod w = pf) :
    exec (.flowRisingEdge ticks) s =
      .next { s with
        msu := { s.msu with window := w, flow := flowOf s.sup.cfg.kFactor pf, known := true, period := some 0 } } := by
  have ends : ¬(P = 0 ∨ 500000 < P) := by omega
  subst window used
  show Host.Outcome.next (flowRisingEdge ticks s) = _
  simp only [flowRisingEdge, if_neg started, timing, counted, if_neg ends, State.mapMsu]

theorem exec_noFlow_timing (timing : s.msu.edge = .timing) :
    exec .noFlow s =
      .next { s with
        msu := { s.msu with flow := 0, known := true, window := [], period := none, edge := .awaitFirst } } := by
  show Host.Outcome.next (noFlow s) = _
  simp only [noFlow, timing, State.mapMsu]

end Edges

/-- Settles O35: the edge in each edge state, with the window of up to three periods by its length before the edge. -/
theorem flowEdgesTimeThePeriods : Obligations.FlowEdgesTimeThePeriods := by
  unfold Obligations.FlowEdgesTimeThePeriods
  refine ⟨fun _ _ => exec_flowRisingEdge_starting, fun _ _ => exec_flowRisingEdge_first,
    fun s b ticks started timing counter => ?_, fun _ => exec_noFlow_timing⟩
  have counted : periodAtEdge s.msu ticks = b + ticks := by rw [periodAtEdge, counter, Option.getD_some]
  refine ⟨fun zero => exec_flowRisingEdge_zero started timing (counted.trans zero), fun positive bounded => ?_⟩
  have taken {w : List Nat} {pf : Nat} := exec_flowRisingEdge_period (w := w) (pf := pf) started timing counted positive bounded
  refine ⟨fun window => ?none, fun x window => ?one, fun x y m window _ below above => ?two,
    fun w x y m window _ below above => ?three⟩
  case none => exact taken (by rw [window]; rfl) rfl
  case one => exact taken (by rw [window]; rfl) rfl
  case two => exact taken (by rw [window]; rfl) (medianOf_eq_of_filter below above)
  case three => exact taken (by rw [window]; rfl) (medianOf_eq_of_filter below above)

end Sys2Proof.Machine
end

section
/-! PROOF. The comparisons of the watch units (R107, R108): what each asks of a value, what lies past thresholds that meet or cross, which
samples qualify by source, and O39 from these. -/

namespace Sys2Proof.Machine

/-! ## A value against the thresholds, by the comparison (R108) -/

section Comparisons
variable {c : UnitConfig} (v : Int)

theorem meetsComparison_above_iff (above : c.comparison = .above) : meetsComparison c v = true ↔ c.high ≤ v := by
  simp [meetsComparison, above]

theorem meetsComparison_below_iff (below : c.comparison = .below) : meetsComparison c v = true ↔ v ≤ c.low := by
  simp [meetsComparison, below]

theorem meetsComparison_outside_iff (outside : c.comparison = .outside) :
    meetsComparison c v = true ↔ c.high ≤ v ∨ v ≤ c.low := by
  simp [meetsComparison, outside]

theorem meetsComparison_inside_iff (inside : c.comparison = .inside) :
    meetsComparison c v = true ↔ c.low < v ∧ v < c.high := by
  simp [meetsComparison, inside]

/-! ## Thresholds with no value strictly between them -/

theorem meetsComparison_outside_of_high_le (noGap : c.high ≤ c.low + 1) (outside : c.comparison = .outside) :
    meetsComparison c v = true := by
  rw [meetsComparison_outside_iff v outside]
  omega

theorem not_meetsComparison_inside_of_high_le (noGap : c.high ≤ c.low + 1) (inside : c.comparison = .inside) :
    meetsComparison c v = false := by
  rw [Bool.eq_false_iff, Ne, meetsComparison_inside_iff v inside]
  omega

/-! ## Which samples qualify, by the source (R107, R108) -/

theorem qualifies_of_source_ne_peerDrip (compared : c.source ≠ .peerDrip) : qualifies c v = meetsComparison c v := by
  cases source : c.source with
  | peerDrip => exact absurd source compared
  | _ => simp only [qualifies, source]

theorem qualifies_of_source_peerDrip (peerDrip : c.source = .peerDrip) : qualifies c v = true := by
  simp only [qualifies, peerDrip]

end Comparisons

/-- Settles O39: the four comparisons, then the thresholds that meet or cross, the saturated index as a value at or above any high that can
be configured, and the two kinds of source. -/
theorem comparisonsMeetTheirThresholds : Obligations.ComparisonsMeetTheirThresholds := by
  unfold Obligations.ComparisonsMeetTheirThresholds
  intro c v
  have saturated (configurable : c.high ≤ 65535) (above : c.comparison = .above) : meetsComparison c 65535 = true :=
    (meetsComparison_above_iff 65535 above).2 configurable
  exact ⟨meetsComparison_above_iff v, meetsComparison_below_iff v, meetsComparison_outside_iff v, meetsComparison_inside_iff v,
    meetsComparison_outside_of_high_le v, not_meetsComparison_inside_of_high_le v, saturated,
    qualifies_of_source_ne_peerDrip v, qualifies_of_source_peerDrip v⟩

end Sys2Proof.Machine
end

section
/-! PROOF. The share (R132): its two branches and its bounds, what the rounding down of the shares of a row loses, and O37 from these. -/

namespace Sys2Proof.Machine

section Share
variable {c : ConfigSet} {d peers : Nat}

/-! ## The share of one station -/

theorem shareOf_of_fits (fits : d + peers ≤ c.capacity) : shareOf c d peers = d :=
  if_pos fits

theorem shareOf_of_exceeds (exceeds : c.capacity < d + peers) :
    shareOf c d peers = c.capacity * d / (d + peers) :=
  if_neg (not_le.2 exceeds)

theorem shareOf_le_demand : shareOf c d peers ≤ d := by
  obtain fits | exceeds := le_or_gt (d + peers) c.capacity
  · exact (shareOf_of_fits fits).le
  · rw [shareOf_of_exceeds exceeds]
    exact Nat.div_le_of_le_mul (Nat.mul_le_mul_right d exceeds.le)

theorem shareOf_le_capacity : shareOf c d peers ≤ c.capacity := by
  obtain fits | exceeds := le_or_gt (d + peers) c.capacity
  · rw [shareOf_of_fits fits]
    exact (Nat.le_add_right d peers).trans fits
  · rw [shareOf_of_exceeds exceeds, mul_comm]
    exact Nat.div_le_of_le_mul (Nat.mul_le_mul_right c.capacity (Nat.le_add_right d peers))

end Share

/-! ## The shares of a row whose stations all hold the same sum -/

section Row
variable {c : ConfigSet} {row : List Nat}

theorem sum_map_shareOf_of_fits (fits : row.sum ≤ c.capacity) :
    (row.map fun own => shareOf c own (row.sum - own)).sum = row.sum := by
  have each : ∀ own ∈ row, shareOf c own (row.sum - own) = own := fun own present => by
    have := List.le_sum_of_mem present
    exact shareOf_of_fits (by omega)
  rw [List.map_congr_left each, List.map_id']

theorem map_shareOf_of_exceeds (exceeds : c.capacity < row.sum) :
    (row.map fun own => shareOf c own (row.sum - own)) = row.map fun own => c.capacity * own / row.sum := by
  refine List.map_congr_left fun own present => ?_
  have whole : own + (row.sum - own) = row.sum := Nat.add_sub_of_le (List.le_sum_of_mem present)
  rw [shareOf_of_exceeds (whole.symm ▸ exceeds), whole]

/-- Quotients rounded down come together to no more than the quotient of the whole. -/
theorem sum_map_mul_div_mul_le (C S : Nat) (row : List Nat) : (row.map fun d => C * d / S).sum * S ≤ C * row.sum := by
  induction row with
  | nil => simp
  | cons d row ih =>
    have own := Nat.div_mul_le_self (C * d) S
    simp only [List.map_cons, List.sum_cons, Nat.add_mul, Nat.mul_add]
    omega

/-- Rounding down loses less than one whole divisor for each entry. -/
theorem mul_sum_le_sum_map_mul_div_mul (C : Nat) {S : Nat} (positive : 0 < S) (row : List Nat) :
    C * row.sum ≤ (row.map fun d => C * d / S).sum * S + row.length * (S - 1) := by
  induction row with
  | nil => simp
  | cons d row ih =>
    have own := Nat.lt_div_mul_add (a := C * d) positive
    simp only [List.map_cons, List.sum_cons, List.length_cons, Nat.add_mul, Nat.mul_add]
    omega

theorem sum_map_shareOf_le_capacity :
    (row.map fun own => shareOf c own (row.sum - own)).sum ≤ c.capacity := by
  obtain fits | exceeds := le_or_gt row.sum c.capacity
  · rwa [sum_map_shareOf_of_fits fits]
  · rw [map_shareOf_of_exceeds exceeds]
    exact Nat.le_of_mul_le_mul_right (sum_map_mul_div_mul_le c.capacity row.sum row) (Nat.zero_lt_of_lt exceeds)

/-- The capacity left over is less than one unit for each station of the row. -/
theorem capacity_le_sum_map_shareOf_add (short : row.length ≤ 32) (exceeds : c.capacity < row.sum) :
    c.capacity ≤ (row.map fun own => shareOf c own (row.sum - own)).sum + 31 := by
  have positive : 0 < row.sum := Nat.zero_lt_of_lt exceeds
  rw [map_shareOf_of_exceeds exceeds]
  set total := (row.map fun own => c.capacity * own / row.sum).sum
  have leftOver : c.capacity * row.sum < (total + 32) * row.sum :=
    calc c.capacity * row.sum
      _ ≤ total * row.sum + row.length * (row.sum - 1) := mul_sum_le_sum_map_mul_div_mul c.capacity positive row
      _ ≤ total * row.sum + 32 * (row.sum - 1) := Nat.add_le_add_left (Nat.mul_le_mul_right _ short) _
      _ < (total + 32) * row.sum := by rw [Nat.add_mul]; omega
  exact Nat.le_of_lt_succ (Nat.lt_of_mul_lt_mul_right leftOver)

end Row

/-- Settles O37: the two branches of the share, its bounds, and the row's total between the capacity less the rounding and the capacity. -/
theorem shareNeverExceedsDemandOrCapacity : Obligations.ShareNeverExceedsDemandOrCapacity := by
  unfold Obligations.ShareNeverExceedsDemandOrCapacity
  intro c d peers
  have noDemand (zero : d = 0) : shareOf c d peers = 0 := Nat.le_zero.1 (zero ▸ shareOf_le_demand)
  exact ⟨shareOf_of_fits, shareOf_of_exceeds, shareOf_le_demand, shareOf_le_capacity, noDemand,
    fun _ => ⟨sum_map_shareOf_le_capacity, capacity_le_sum_map_shareOf_add⟩⟩

end Sys2Proof.Machine
end

section
/-! PROOF. The base duty (R134): the segments of the valve table, the interpolation on a segment from end to end, the rise from one grant
to the next, and O38 from these. -/

namespace Sys2Proof.Machine

section ValveTable
variable {c : ConfigSet} {k : Fin 8} {g h : Nat}

/-! ## The interpolation on a segment -/

theorem interpolate_mono (le : g ≤ h) : interpolate c k g ≤ interpolate c k h :=
  Nat.add_le_add_left (Nat.div_le_div_right (Nat.mul_le_mul_left _ (Nat.sub_le_sub_right le _))) _

theorem interpolate_left : interpolate c k c.flowPoints[k.val] = c.dutyPoints[k.val] := by
  simp [interpolate]

/-! ## Grants below the last flow point -/

theorem baseDutyOf_of_le_first (positive : 1 ≤ g) (low : g ≤ c.flowPoints[0]) : baseDutyOf c g = c.dutyPoints[0] := by
  rw [baseDutyOf, if_neg (by omega), if_pos low]

/-- A grant from F0 on and below F8 is in a segment. -/
theorem exists_segment (low : c.flowPoints[0] ≤ g) (high : g < c.flowPoints[8]) :
    ∃ k : Fin 8, c.flowPoints[k.val] ≤ g ∧ g < c.flowPoints[k.val + 1] := by
  by_contra outside
  have allBelow (i : Fin 9) : c.flowPoints[i.val] ≤ g := by
    induction i using Fin.induction with
    | zero => exact low
    | succ k left => exact not_lt.1 fun right => outside ⟨k, left, right⟩
  exact absurd (allBelow 8) (not_le.2 high)

/-! ## The tables in order (R5) -/

section InOrder
variable (inOrder : tablesInOrder c = true)
include inOrder

theorem flowPoints_strictMono : StrictMono fun i : Fin 9 => c.flowPoints[i.val] :=
  Fin.strictMono_iff_lt_succ.2 ((tablesInOrder_iff c).1 inOrder).1

theorem dutyPoints_le_next (k : Fin 8) : c.dutyPoints[k.val] ≤ c.dutyPoints[k.val + 1] :=
  ((tablesInOrder_iff c).1 inOrder).2 k

theorem flowPoints_first_lt_last : c.flowPoints[0] < c.flowPoints[8] :=
  flowPoints_strictMono inOrder (by decide : (0 : Fin 9) < 8)

theorem interpolate_right : interpolate c k c.flowPoints[k.val + 1] = c.dutyPoints[k.val + 1] := by
  have rises : c.flowPoints[k.val] < c.flowPoints[k.val + 1] := flowPoints_strictMono inOrder k.castSucc_lt_succ
  simp only [interpolate]
  rw [Nat.mul_div_cancel _ (Nat.sub_pos_of_lt rises), Nat.add_sub_of_le (dutyPoints_le_next inOrder k)]

/-- A grant is in one segment only. -/
theorem segment_unique {j k : Fin 8} (inJ : c.flowPoints[j.val] ≤ g ∧ g < c.flowPoints[j.val + 1])
    (inK : c.flowPoints[k.val] ≤ g ∧ g < c.flowPoints[k.val + 1]) : j = k := by
  have le_of_between {a b : Fin 8} (left : c.flowPoints[a.val] ≤ g) (right : g < c.flowPoints[b.val + 1]) : a ≤ b :=
    Fin.castSucc_lt_succ_iff.1 ((flowPoints_strictMono inOrder).lt_iff_lt.1 (left.trans_lt right))
  exact le_antisymm (le_of_between inJ.1 inK.2) (le_of_between inK.1 inJ.2)

/-! ## The base duty of a grant, by where it lies in the table -/

theorem baseDutyOf_of_last_le (high : c.flowPoints[8] ≤ g) : baseDutyOf c g = c.dutyPoints[8] := by
  have := flowPoints_first_lt_last inOrder
  rw [baseDutyOf, if_neg (by omega), if_neg (by omega), if_pos high]

/-- Strictly between F0 and F8 the search finds the one segment that holds the grant. -/
theorem baseDutyOf_of_between (low : c.flowPoints[0] < g) (high : g < c.flowPoints[8]) (left : c.flowPoints[k.val] ≤ g)
    (right : g < c.flowPoints[k.val + 1]) : baseDutyOf c g = interpolate c k g := by
  have listed (k : Fin 8) : k ∈ tableSegments := by revert k; decide
  rw [baseDutyOf, if_neg (by omega), if_neg (by omega), if_neg (by omega)]
  split
  case h_1 j found =>
    have inJ := List.find?_some found
    rw [segment_unique inOrder (of_decide_eq_true inJ) ⟨left, right⟩]
  case h_2 missing => exact absurd (decide_eq_true ⟨left, right⟩) (List.find?_eq_none.1 missing k (listed k))

theorem baseDutyOf_flowPoint (i : Fin 9) (positive : 1 ≤ c.flowPoints[i.val]) :
    baseDutyOf c c.flowPoints[i.val] = c.dutyPoints[i.val] := by
  have rises := flowPoints_strictMono inOrder
  obtain rfl | first := eq_or_ne i 0
  · exact baseDutyOf_of_le_first positive le_rfl
  · cases i using Fin.lastCases with
    | last => exact baseDutyOf_of_last_le inOrder le_rfl
    | cast k =>
      rw [baseDutyOf_of_between inOrder (k := k) (rises (Fin.pos_of_ne_zero first)) (rises k.castSucc_lt_last) le_rfl
        (rises k.castSucc_lt_succ)]
      exact interpolate_left

/-- On a segment with both its ends the base duty is the segment's interpolation: where two segments meet both give the duty point. -/
theorem baseDutyOf_of_segment (positive : 1 ≤ g) (left : c.flowPoints[k.val] ≤ g) (right : g ≤ c.flowPoints[k.val + 1]) :
    baseDutyOf c g = interpolate c k g := by
  have rises := (flowPoints_strictMono inOrder).monotone
  obtain atLeft | afterLeft := left.eq_or_lt
  · rw [← atLeft, interpolate_left]
    exact baseDutyOf_flowPoint inOrder k.castSucc (positive.trans_eq atLeft.symm)
  · obtain atRight | beforeRight := right.eq_or_lt
    · rw [atRight, interpolate_right inOrder]
      exact baseDutyOf_flowPoint inOrder k.succ (positive.trans_eq atRight)
    · exact baseDutyOf_of_between inOrder ((rises k.castSucc.zero_le).trans_lt afterLeft)
        (beforeRight.trans_le (rises k.succ.le_last)) left beforeRight

/-! ## The rise with the grant -/

/-- From a grant to the next both lie up to F0, both on one segment with its ends, or both from F8 on. -/
theorem baseDutyOf_le_succ (g : Nat) : baseDutyOf c g ≤ baseDutyOf c (g + 1) := by
  obtain rfl | positive := Nat.eq_zero_or_pos g
  · exact Nat.zero_le _
  obtain low | low := Nat.lt_or_ge g c.flowPoints[0]
  · rw [baseDutyOf_of_le_first positive low.le, baseDutyOf_of_le_first (Nat.succ_pos g) low]
  obtain high | high := Nat.lt_or_ge g c.flowPoints[8]
  · obtain ⟨k, left, right⟩ := exists_segment low high
    rw [baseDutyOf_of_segment inOrder positive left right.le,
      baseDutyOf_of_segment inOrder (Nat.succ_pos g) (Nat.le_succ_of_le left) right]
    exact interpolate_mono (Nat.le_succ g)
  · rw [baseDutyOf_of_last_le inOrder high, baseDutyOf_of_last_le inOrder (Nat.le_succ_of_le high)]

theorem baseDutyOf_monotone : Monotone (baseDutyOf c) :=
  monotone_nat_of_le_succ (baseDutyOf_le_succ inOrder)

theorem baseDutyOf_le_last (g : Nat) : baseDutyOf c g ≤ c.dutyPoints[8] :=
  (baseDutyOf_monotone inOrder (le_max_left g c.flowPoints[8])).trans_eq (baseDutyOf_of_last_le inOrder (le_max_right _ _))

theorem interpolate_between_dutyPoints (left : c.flowPoints[k.val] ≤ g) (right : g ≤ c.flowPoints[k.val + 1]) :
    c.dutyPoints[k.val] ≤ interpolate c k g ∧ interpolate c k g ≤ c.dutyPoints[k.val + 1] :=
  ⟨interpolate_left.ge.trans (interpolate_mono left), (interpolate_mono right).trans_eq (interpolate_right inOrder)⟩

end InOrder

theorem tables_of_configInRange (inRange : Safety.ConfigInRange c) : tablesInOrder c = true ∧ c.dutyPoints[8] ≤ 1023 := by
  obtain ⟨-, -, -, -, -, -, -, -, -, -, flowRises, -, dutyRises, greatest, -⟩ := inRange
  exact ⟨(tablesInOrder_iff c).2 ⟨flowRises, dutyRises⟩, greatest⟩

end ValveTable

/-- Settles O38: a set the load can leave has its tables in order, so the base duty is the interpolation on each segment with its ends and
rises from grant to grant, up to U8. -/
theorem baseDutyRisesWithTheGrant : Obligations.BaseDutyRisesWithTheGrant := by
  unfold Obligations.BaseDutyRisesWithTheGrant
  intro c inRange
  obtain ⟨inOrder, greatest⟩ := tables_of_configInRange inRange
  refine ⟨rfl, fun _ => baseDutyOf_of_le_first, fun _ _ => baseDutyOf_of_last_le inOrder, fun k g low high left right => ?between,
    fun _ _ le => baseDutyOf_monotone inOrder le, fun g => (baseDutyOf_le_last inOrder g).trans greatest⟩
  case between =>
    have interpolated : baseDutyOf c g = interpolate c k g := baseDutyOf_of_between inOrder low high left right
    exact ⟨interpolated, interpolated ▸ interpolate_between_dutyPoints inOrder left right.le⟩

end Sys2Proof.Machine
end

section
/-! PROOF. FREEZE and RESUME (R161, R163): a freeze request in each capture state, what the two commands answer while RESET is not held,
and O45 from these. -/

namespace Sys2Proof.Machine

variable {s : State}

/-- A write is taken while RESET is not held low (R165). -/
theorem whenReleased_of_released {f : State → State} (released : s.clk.held = false) : whenReleased f s = f s := by
  rw [whenReleased, released]
  rfl

/-! ## A freeze request by the capture's state (R161) -/

theorem requestFreeze_of_running {r : FreezeReason} {u : Option (Fin 8)} (running : s.cap.frozen = false) :
    requestFreeze r u s = { s with cap := { s.cap with frozen := true, reason := r, unit := u, time := some s.clk.ms } } := by
  rw [requestFreeze, State.mapCap, running]
  rfl

theorem requestFreeze_of_frozen {r : FreezeReason} {u : Option (Fin 8)} (frozen : s.cap.frozen = true) :
    requestFreeze r u s = s := by
  rw [requestFreeze, State.mapCap, if_pos frozen]

/-! ## The two commands with their answers -/

theorem exec_freeze (released : s.clk.held = false) :
    exec .freeze s = .next (answer .ok [] (requestFreeze .service none s)) :=
  congrArg Host.Outcome.next (whenReleased_of_released released)

theorem exec_resume_of_frozen (released : s.clk.held = false) (frozen : s.cap.frozen = true) :
    exec .resume s = .next (answer .ok [] (s.mapCap resumeCapture)) :=
  congrArg Host.Outcome.next ((whenReleased_of_released released).trans (if_pos frozen))

theorem exec_resume_of_running (released : s.clk.held = false) (running : s.cap.frozen = false) :
    exec .resume s = .next (answer .notFrozen [] s) :=
  congrArg Host.Outcome.next ((whenReleased_of_released released).trans (if_neg (ne_true_of_eq_false running)))

/-- Settles O45: in each capture state FREEZE answers after its freeze request, and RESUME after emptying the capture or at once. -/
theorem freezeAndResumeTheCapture : Obligations.FreezeAndResumeTheCapture := by
  unfold Obligations.FreezeAndResumeTheCapture
  intro s released svc
  refine ⟨fun running => ⟨?freezes, ?refused⟩, fun frozen => ⟨?staysFrozen, ?resumes⟩⟩
  case freezes =>
    rw [exec_freeze released, requestFreeze_of_running running]
    rfl
  case refused =>
    rw [exec_resume_of_running released running]
    rfl
  case staysFrozen =>
    rw [exec_freeze released, requestFreeze_of_frozen frozen]
    rfl
  case resumes =>
    rw [exec_resume_of_frozen released frozen]
    rfl

end Sys2Proof.Machine
end

section
/-! PROOF. What a step leads to: the state after each command, the cases of a step, and for the commands of the row line and of the
service port what they can change at all. Every invariant below is derived from these cases. -/

namespace Sys2Proof.Machine

variable {s t : State}

/-- The state after a command: no command faults, and none is refused (log entry 26). -/
def after : Instr → State → State
  | .reset => resetPart
  | .resetRelease addr seg => resetRelease addr seg
  | .loadEnd image => loadEnd image
  | .joinTimerExpiry => joinTimerExpiry
  | .announceTimerExpiry => announceTimerExpiry
  | .holdoffExpiry => holdoffExpiry
  | .attemptStart => attemptStart
  | .startEdge held => fallingEdge held
  | .quiet => quietReached
  | .lineStuck => lineStuck
  | .gapTimeout => gapTimeout
  | .frameError cell => frameError cell
  | .lengthError len => lengthError len
  | .goodFrame bytes => goodFrame bytes
  | .lostArbitration cell => lostArbitration cell
  | .bitError sampled => bitError sampled
  | .entryStale addr => entryStale addr
  | .entryRemoval addr => entryRemoval addr
  | .scanTimerExpiry => scanTimerExpiry
  | .referencePhaseEnd ticks => referencePhaseEnd ticks
  | .referenceFault => referenceFault
  | .sensorPhaseEnd cycles => sensorPhaseEnd cycles
  | .counterOverflow => counterOverflow
  | .acquisitionTimerExpiry => acquisitionTimerExpiry
  | .conversionEnd code => conversionEnd code
  | .flowRisingEdge ticks => flowRisingEdge ticks
  | .noFlow => noFlow
  | .windowExpiry unit => windowExpiry unit
  | .periodStart => periodStart
  | .pullInExpiry => pullInExpiry
  | .strokeTimerExpiry => strokeTimerExpiry
  | .ident => identRequest
  | .station => stationRequest
  | .zones => zonesRequest
  | .watch index => watchRequest index
  | .roster index => rosterRequest index
  | .captureInfo => captureInfoRequest
  | .capture index => captureRequest index
  | .release => releaseCommand
  | .acknowledge => acknowledgeCommand
  | .scan => scanCommand
  | .freeze => freezeCommand
  | .resume => resumeCommand
  | .park => parkCommand
  | .unpark => unparkCommand
  | .badRequest => badRequestWrite
  | .serviceRead count => serviceRead count
  | .cellSamplePoint => cellSamplePoint
  | .rowFallingEdge held => fallingEdge held
  | .rowRisingEdge held => risingEdge held
  | .transmitCellEdge => transmitCellEdge
  | .driveRelease => driveRelease

theorem exec_eq_after (c : Instr) (s : State) : exec c s = .next (after c s) := by cases c <;> rfl

theorem eq_after_of_exec {c : Instr} (ran : exec c s = .next t) : t = after c s := by
  rw [exec_eq_after] at ran
  exact (Host.Outcome.next.inj ran).symm

/-! ## The step -/

/-- A step runs the front command, or counts one µs, or queues an event at most. -/
theorem step_cases (stepped : step s = .next t) :
    (∃ c q, t = after c { s with pending := q }) ∨ (∃ q, t = { tickState s with pending := q }) ∨
      ∃ q, t = { s with pending := q } := by
  unfold step at stepped
  split at stepped
  · exact .inl ⟨_, _, eq_after_of_exec stepped⟩
  · obtain rfl := Host.Outcome.next.inj stepped
    obtain ⟨-, still⟩ | ⟨-, e, es, -, queued⟩ | ⟨-, -, -, offered⟩ | ⟨-, -, -, ticked⟩ := idle_cases s
    · exact .inr (.inr ⟨s.pending, still⟩)
    · exact .inr (.inr ⟨_, queued⟩)
    · exact .inr (.inr ⟨_, offered⟩)
    · exact .inr (.inl ⟨_, ticked⟩)

/-- What holds in every state that meets Q, after every command run in one and after every tick of one holds after a step; Q and P do not
read the waiting commands. -/
theorem step_leads {Q P : State → Prop} (queueQ : ∀ s q, Q s → Q { s with pending := q })
    (queueP : ∀ s q, P s → P { s with pending := q }) (holds : ∀ s, Q s → P s) (command : ∀ c s, Q s → P (after c s))
    (tick : ∀ s, Q s → P (tickState s)) (start : Q s) (stepped : step s = .next t) : P t := by
  obtain ⟨c, q, rfl⟩ | ⟨q, rfl⟩ | ⟨q, rfl⟩ := step_cases stepped
  · exact command c _ (queueQ s q start)
  · exact queueP _ q (tick s start)
  · exact queueP _ q (holds s start)

/-! ## The commands of the row line and the link -/

/-- The commands of the row line and of the link's timers. -/
def isLineCommand : Instr → Bool
  | .announceTimerExpiry | .holdoffExpiry | .attemptStart | .startEdge _ | .quiet | .lineStuck | .gapTimeout | .frameError _
  | .lengthError _ | .goodFrame _ | .lostArbitration _ | .bitError _ | .cellSamplePoint | .rowFallingEdge _
  | .rowRisingEdge _ | .transmitCellEdge | .driveRelease => true
  | _ => false

/-- What the link controller's own events can lead to, the row line interface and the link controller left open but for the running of the
announce timer: nothing beyond them, or the record of a holdoff. -/
inductive LinkOutcome (s : State) : State → Prop
  | line (f : RowLine → RowLine) (g : Link → Link) (announces : (g s.lnk).announce.isSome = s.lnk.announce.isSome) :
      LinkOutcome s ((s.mapRli f).mapLnk g)
  | holdoff (f : RowLine → RowLine) (g : Link → Link) (announces : (g s.lnk).announce.isSome = s.lnk.announce.isSome) :
      LinkOutcome s (handEvent .holdoff ((s.mapRli f).mapLnk g))

/-- What a command of the row line can lead to: that, a conflict report, or a frame of another station that the roster takes. -/
inductive LineOutcome (s : State) : State → Prop
  | link {t : State} (o : LinkOutcome s t) : LineOutcome s t
  | conflict (f : RowLine → RowLine) (g : Link → Link) (announces : (g s.lnk).announce.isSome = s.lnk.announce.isSome) :
      LineOutcome s (conflictReport ((s.mapRli f).mapLnk g))
  | peer (f : RowLine → RowLine) (g : Link → Link) (announces : (g s.lnk).announce.isSome = s.lnk.announce.isSome) (frame : RxFrame)
      (other : some frame.src ≠ s.sup.ownAddr) :
      LineOutcome s (takeFrame frame.src (readPeerFrame frame.kind frame.payload) ((s.mapRli f).mapLnk g))

theorem LinkOutcome.same : LinkOutcome s s := .line id id rfl
theorem LinkOutcome.mapRli (f : RowLine → RowLine) : LinkOutcome s (s.mapRli f) := .line f id rfl
theorem LinkOutcome.mapLnk (g : Link → Link) (announces : (g s.lnk).announce.isSome = s.lnk.announce.isSome) :
    LinkOutcome s (s.mapLnk g) := .line id g announces

/-- What follows a change of the row line and the link is an outcome of the whole. -/
theorem LinkOutcome.after_line {f : RowLine → RowLine} {g : Link → Link}
    (o : LinkOutcome ((s.mapRli f).mapLnk g) t) (announces : (g s.lnk).announce.isSome = s.lnk.announce.isSome) : LinkOutcome s t := by
  cases o with
  | line f' g' same => exact .line (f' ∘ f) (g' ∘ g) (same.trans announces)
  | holdoff f' g' same => exact .holdoff (f' ∘ f) (g' ∘ g) (same.trans announces)

theorem LinkOutcome.after_mapRli {f : RowLine → RowLine} (o : LinkOutcome (s.mapRli f) t) : LinkOutcome s t :=
  LinkOutcome.after_line (g := id) o rfl

theorem LineOutcome.after_line {f : RowLine → RowLine} {g : Link → Link}
    (o : LineOutcome ((s.mapRli f).mapLnk g) t) (announces : (g s.lnk).announce.isSome = s.lnk.announce.isSome) : LineOutcome s t := by
  cases o with
  | link o => exact .link (o.after_line announces)
  | conflict f' g' same => exact .conflict (f' ∘ f) (g' ∘ g) (same.trans announces)
  | peer f' g' same frame other => exact .peer (s := s) (f' ∘ f) (g' ∘ g) (same.trans announces) frame other

theorem LineOutcome.after_mapRli {f : RowLine → RowLine} (o : LineOutcome (s.mapRli f) t) : LineOutcome s t :=
  LineOutcome.after_line (g := id) o rfl

theorem startAttempt_outcome (ago : Nat) (kind : TxKind) (s : State) : LinkOutcome s (startAttempt ago kind s) := by
  simp only [startAttempt]
  exact .line _ _ rfl

theorem receptionError_outcome (e : LinkError) (s : State) : LinkOutcome s (receptionError e s) := .line _ _ rfl

theorem attemptBitError_outcome (s : State) : LinkOutcome s (attemptBitError s) := by
  simp only [attemptBitError]
  split
  · exact .line _ _ rfl
  · exact .holdoff _ _ rfl

theorem sortFrame_outcome (f : RxFrame) (s : State) : LineOutcome s (sortFrame f s) := by
  unfold sortFrame
  split
  · exact .link (.mapLnk _ rfl)
  · split
    · exact .conflict id id rfl
    · exact .peer id id rfl _ ‹_›

theorem handGoodFrame_outcome (bytes : List Byte) (s : State) : LineOutcome s (handGoodFrame bytes s) := by
  unfold handGoodFrame
  split
  · refine .link (.line _ _ ?_)
    dsimp only
    split <;> rfl
  · exact (sortFrame_outcome _ _).after_line rfl

theorem endFrame_outcome (check : Byte) (bytes : List Byte) (s : State) : LineOutcome s (endFrame check bytes s) := by
  unfold endFrame
  split
  · exact handGoodFrame_outcome bytes s
  · exact .link (receptionError_outcome _ s)

theorem takeBit_outcome (bit : Bool) (s : State) : LineOutcome s (takeBit bit s) := by
  simp only [takeBit]
  repeat' split
  all_goals first
    | exact .link (receptionError_outcome _ s)
    | exact endFrame_outcome _ _ s
    | exact .link (.mapRli _)

theorem sampleCell_outcome (s : State) : LineOutcome s (sampleCell s) := by
  simp only [sampleCell]
  split
  · split
    · exact (takeBit_outcome _ _).after_mapRli
    · split
      · exact ((takeBit_outcome _ (attemptLost _)).after_line rfl).after_mapRli
      · exact .link (attemptBitError_outcome _).after_mapRli
  · exact (takeBit_outcome _ _).after_mapRli

theorem fallingEdge_outcome (held : Nat) (s : State) : LinkOutcome s (fallingEdge held s) := by
  have taken (ago : Nat) : LinkOutcome s (startEdgeTaken ago s) := by
    unfold startEdgeTaken
    split
    · exact startAttempt_outcome _ _ s
    · exact .line _ _ rfl
  simp only [fallingEdge]
  split
  · exact .same
  · split
    · exact .mapRli _
    · exact taken _
    all_goals exact .mapRli _

/-- Every command of the row line or the link ends in one of these outcomes, ATTN brought up to date where a frame can have ended. -/
theorem after_line_outcome {c : Instr} (line : isLineCommand c = true) (s : State) :
    LinkOutcome s (after c s) ∨ ∃ x, LineOutcome s x ∧ after c s = updateAttn x := by
  cases c with
  | announceTimerExpiry =>
    refine .inl ?_
    simp only [after, announceTimerExpiry]
    split
    case h_1 running =>
      exact (LinkOutcome.mapLnk (fun l => { l with statusPending := true, renewed := l.renewed || statusInFlight s }) rfl).after_line
        (f := id) (g := fun l => { l with announce := some (msec s.sup.cfg.pAnn) }) (by rw [running]; rfl)
    · exact .same
  | holdoffExpiry =>
    refine .inl ?_
    simp only [after, holdoffExpiry]
    split
    · exact .mapLnk _ rfl
    · exact .same
  | attemptStart =>
    refine .inl ?_
    simp only [after, attemptStart]
    split
    · split
      · exact startAttempt_outcome _ _ s
      · exact .same
    · exact .same
  | startEdge held => exact .inl (fallingEdge_outcome held s)
  | rowFallingEdge held => exact .inl (fallingEdge_outcome held s)
  | rowRisingEdge held =>
    refine .inl ?_
    simp only [after, risingEdge]
    split
    · exact .same
    · exact .mapRli _
  | quiet =>
    refine .inl ?_
    simp only [after, quietReached]
    split
    · exact .line _ _ rfl
    · exact .line _ _ rfl
    all_goals exact .same
  | lineStuck =>
    refine .inl ?_
    simp only [after, lineStuck]
    split
    · exact .same
    · split
      case h_4 | h_5 => exact .same
      all_goals exact .line _ _ rfl
  | gapTimeout =>
    refine .inl ?_
    simp only [after, gapTimeout]
    split
    · exact receptionError_outcome _ s
    · exact .same
  | frameError cell =>
    refine .inl ?_
    simp only [after, frameError]
    split
    · exact (receptionError_outcome _ _).after_mapRli
    · exact .same
  | lengthError len =>
    refine .inl ?_
    simp only [after, lengthError]
    split
    · exact (receptionError_outcome _ _).after_mapRli
    · exact .same
  | goodFrame bytes =>
    simp only [after, goodFrame]
    split
    · exact .inr ⟨_, (endFrame_outcome _ _ _).after_mapRli, rfl⟩
    · exact .inl .same
  | lostArbitration n =>
    refine .inl ?_
    simp only [after, lostArbitration]
    split
    · split
      · exact LinkOutcome.after_mapRli (.line (fun r => { r with tx := none }) _ rfl)
      · exact .same
    · exact .same
  | bitError sampled =>
    refine .inl ?_
    simp only [after, bitError]
    split
    · exact (attemptBitError_outcome _).after_mapRli
    · exact .same
  | cellSamplePoint =>
    simp only [after, cellSamplePoint]
    split
    · split
      · exact .inl .same
      · exact .inr ⟨_, sampleCell_outcome s, rfl⟩
    · exact .inl .same
  | transmitCellEdge =>
    refine .inl ?_
    simp only [after, transmitCellEdge]
    split
    · split
      · exact .mapRli _
      · exact .same
    · exact .same
  | driveRelease =>
    refine .inl ?_
    simp only [after, driveRelease]
    exact .mapRli _
  | _ => cases line

/-! ## The requests that only answer -/

/-- The requests that leave everything but the service port as it is. -/
def isReadCommand : Instr → Bool
  | .ident | .station | .zones | .watch _ | .roster _ | .captureInfo | .capture _ | .badRequest | .serviceRead _ => true
  | _ => false

theorem whenReleased_cases (f : State → State) (s : State) :
    s.clk.held = true ∧ whenReleased f s = s ∨ s.clk.held = false ∧ whenReleased f s = f s := by
  cases held : s.clk.held <;> simp [whenReleased, held]

theorem after_read {c : Instr} (read : isReadCommand c = true) (s : State) :
    ∃ f, after c s = s.mapSvc f ∧ ∀ v, (f v).attn = v.attn := by
  have taken {f : State → State} (answers : ∃ g, f s = s.mapSvc g ∧ ∀ v, (g v).attn = v.attn) :
      ∃ g, whenReleased f s = s.mapSvc g ∧ ∀ v, (g v).attn = v.attn := by
    obtain ⟨-, refused⟩ | ⟨-, run⟩ := whenReleased_cases f s
    · exact ⟨id, refused, fun _ => rfl⟩
    · exact run ▸ answers
  cases c with
  | watch index =>
    simp only [after, watchRequest]
    refine taken ?_
    split <;> exact ⟨_, rfl, fun _ => rfl⟩
  | roster index =>
    simp only [after, rosterRequest]
    refine taken ?_
    split <;> exact ⟨_, rfl, fun _ => rfl⟩
  | capture index =>
    simp only [after, captureRequest]
    refine taken ?_
    split
    · split <;> exact ⟨_, rfl, fun _ => rfl⟩
    · exact ⟨_, rfl, fun _ => rfl⟩
  | ident | station | zones | captureInfo | badRequest | serviceRead => exact taken ⟨_, rfl, fun _ => rfl⟩
  | _ => cases read

end Sys2Proof.Machine
end

section
/-! PROOF. Properties that the shared operations keep: a property kept by the single updates they are made of is kept by every sample, every
firing, every move of the mode, and so by every command that has no update of its own on the blocks the property reads. -/

namespace Sys2Proof.Machine

variable {s t : State} {P : State → Prop}

theorem foldl_induct {α : Type} {f : State → α → State} (each : ∀ t a, P t → P (f t a)) (l : List α) :
    ∀ {s}, P s → P (l.foldl f s) := by
  induction l with
  | nil => exact id
  | cons a l ih => exact fun start => ih (each _ a start)

theorem whenReleased_keeps {f : State → State} (holds : P s) (run : P (f s)) : P (whenReleased f s) := by
  obtain ⟨-, eq⟩ | ⟨-, eq⟩ := whenReleased_cases f s
  all_goals rw [eq]
  · exact holds
  · exact run

/-! ## The mode -/

/-- The evaluation that ends an entry to ISOLATED moves no further. -/
theorem enterIsolated_eq (s : State) :
    enterIsolated s = queueDrip .isolate (closeRequest (changeMode .isolated s)) := by
  unfold enterIsolated
  obtain ⟨stays, -⟩ | ⟨-, -, active, -⟩ | ⟨-, -, contained, -⟩ :=
    evalContainment_cases (queueDrip .isolate (closeRequest (changeMode .isolated s)))
  · exact stays
  · simp at active
  · simp at contained

theorem goActive_cases (s : State) :
    goActive s = changeMode .active s ∧ (s.sup.cfg.quorum = 0 ∨ isolationCount s < s.sup.cfg.quorum) ∨
      goActive s = changeMode .contained (changeMode .active s) ∧ 1 ≤ s.sup.cfg.quorum ∧
        s.sup.cfg.quorum ≤ isolationCount s := by
  have count : isolationCount (changeMode .active s) = isolationCount s := by simp [isolationCount]
  obtain ⟨stays, why⟩ | ⟨moves, one, -, reached⟩ | ⟨-, -, contained, -⟩ := evalContainment_cases (changeMode .active s)
  · simp only [count, changeMode_cfg, changeMode_mode] at why
    refine .inl ⟨stays, ?_⟩
    obtain none | ⟨-, below⟩ | ⟨contained, -⟩ | ⟨other, -⟩ := why
    · exact .inl none
    · exact .inr below
    · cases contained
    · exact absurd rfl other
  · rw [count, changeMode_cfg] at reached
    rw [changeMode_cfg] at one
    exact .inr ⟨moves, one, reached⟩
  · simp at contained

/-! ## Two commands in stages -/

/-- A reference fault up to the supervisor's part in it: the count, the record, the join told, SENSOR_FAULT (R76, R10). -/
def faultTold (s : State) : State :=
  let f := handEvent .refFault (s.mapDsu fun d => { d with refFaults := min (d.refFaults + 1) 255 })
  reevalSensorFault (if dryCheckWaits s then joinFault f else f)

theorem referenceFault_scanning (scan : s.dsu.scan = .reference) :
    referenceFault s =
      updateAttn (if dryCheckWaits s && dryCheckWaits (endScan (faultTold s)) then urgentTrigger (endScan (faultTold s))
        else endScan (faultTold s)) := by
  unfold referenceFault
  rw [if_pos scan]
  rfl

theorem referenceFault_none (scan : s.dsu.scan ≠ .reference) : referenceFault s = s := if_neg scan

/-- A frame at the roster: its entry, and the change notice where it calls for one (R57, R72). -/
def rosterTook (addr : Address) (f : PeerFrame) (s : State) : State :=
  let out := rosterTakes s.sup.cfg.pAnn addr f s.ros
  if out.2 then changeNotice (s.mapRos fun _ => out.1) else s.mapRos fun _ => out.1

@[simp] theorem rosterTook_ownSeg (addr : Address) (f : PeerFrame) (s : State) :
    (rosterTook addr f s).sup.ownSeg = s.sup.ownSeg := by
  simp only [rosterTook]
  split <;> simp

/-- The taking of a frame ends with the roster, or with the arrival of a DRIP of the own segment (R69). -/
theorem takeFrame_cases (addr : Address) (f : PeerFrame) (s : State) :
    (∃ seg sev zones, f = .drip seg sev zones ∧ some seg = s.sup.ownSeg ∧
        takeFrame addr f s = peerDripArrival addr sev (rosterTook addr f s)) ∨
      (∀ seg sev zones, f = .drip seg sev zones → some seg ≠ s.sup.ownSeg) ∧ takeFrame addr f s = rosterTook addr f s := by
  cases f with
  | drip seg sev zones =>
    have eq : takeFrame addr (.drip seg sev zones) s =
        if some seg = (rosterTook addr (.drip seg sev zones) s).sup.ownSeg then
          peerDripArrival addr sev (rosterTook addr (.drip seg sev zones) s)
        else rosterTook addr (.drip seg sev zones) s := rfl
    rw [rosterTook_ownSeg] at eq
    by_cases own : some seg = s.sup.ownSeg
    · exact .inl ⟨seg, sev, zones, rfl, own, eq.trans (if_pos own)⟩
    · exact .inr ⟨by rintro _ _ _ ⟨⟩; exact own, eq.trans (if_neg own)⟩
  | status | clear | leave | unknown => exact .inr ⟨nofun, rfl⟩

/-! ## What keeps a property -/

/-- The mode, the configuration set, the straps and the load are as they were. -/
def KeepsSetting (p q : Supervisor) : Prop :=
  q.mode = p.mode ∧ q.cfg = p.cfg ∧ q.ownAddr = p.ownAddr ∧ q.ownSeg = p.ownSeg ∧ q.loading = p.loading

/-- So is WATCH_FIRED. -/
def KeepsStation (p q : Supervisor) : Prop := KeepsSetting p q ∧ q.watchFired = p.watchFired

/-- What a command does to the roster itself: a frame of another station taken, an entry marked or removed (R57, R67, R68). -/
inductive RosterUpdate (s : State) : (Roster → Roster) → Prop
  | takes (f : RxFrame) (other : some f.src ≠ s.sup.ownAddr) :
      RosterUpdate s fun _ => (rosterTakes s.sup.cfg.pAnn f.src (readPeerFrame f.kind f.payload) s.ros).1
  | stale (addr : Address) : RosterUpdate s fun r => { r with entries := changeEntry addr staleEntry r.entries }
  | removal (addr : Address) : RosterUpdate s (removeEntry addr)

/-- The supervisor but for the join's own dry check, timer and counts is as it was. -/
def KeepsSupervisor (p q : Supervisor) : Prop :=
  KeepsStation p q ∧ q.joinDegrade = p.joinDegrade ∧ q.sensorFault = p.sensorFault

/-- P is kept by every single update that the moves of the mode, the row line and the triggers of scans are made of. -/
structure KeptByModes (P : State → Prop) : Prop where
  line : ∀ s f g, P s → P ((s.mapRli f).mapLnk g)
  ros : ∀ s f, RosterUpdate s f → P s → P (s.mapRos f)
  svc : ∀ s f, P s → P (s.mapSvc f)
  join : ∀ s f, (∀ p, KeepsSupervisor p (f p)) → P s → P (s.mapSup f)
  mode : ∀ s m, isEvaluating m = true → P s → P (s.mapSup fun p => { p with mode := m })
  record : ∀ s b, P s → P (handRecord b s)
  freeze : ∀ s r u, r = .isolate ∨ r = .freezeUnit → P s → P (requestFreeze r (some u) s)
  opens : ∀ s, P s → P (openRequest s)
  closes : ∀ s, P s → P (closeRequest s)
  starts : ∀ s, isEvaluating s.sup.mode = true → P s → P (startScanTimer s)
  triggers : ∀ s, isEvaluating s.sup.mode = true → P s → P (urgentTrigger s)

/-- P is kept by every single update that the shared operations outside the watch engine are made of. -/
structure KeptCore (P : State → Prop) : Prop where
  line : ∀ s f g, P s → P ((s.mapRli f).mapLnk g)
  ros : ∀ s f, RosterUpdate s f → P s → P (s.mapRos f)
  dsu : ∀ s f, P s → P (s.mapDsu f)
  msu : ∀ s f, P s → P (s.mapMsu f)
  svc : ∀ s f, P s → P (s.mapSvc f)
  station : ∀ s f, (∀ p, KeepsStation p (f p)) → P s → P (s.mapSup f)
  mode : ∀ s m, isEvaluating m = true → P s → P (s.mapSup fun p => { p with mode := m })
  record : ∀ s b, P s → P (handRecord b s)
  freeze : ∀ s r u, r = .isolate ∨ r = .freezeUnit → P s → P (requestFreeze r (some u) s)
  opens : ∀ s, P s → P (openRequest s)
  closes : ∀ s, P s → P (closeRequest s)

/-- P is kept by what the watch engine does: a sample, an arming event, the units leaving FIRED, the dry check's firings, a window's
expiry. -/
structure KeptByWatch (P : State → Prop) : Prop where
  sample : ∀ s src v, src ≠ .none → P s → P (deliverSample src v s)
  arms : ∀ s, P s → P (armDependants .afterPeerDrip s)
  leaves : ∀ s returns, P s → P (leaveFiredWhere returns s)
  fires : ∀ s units, P s → P (fireDryCheckUnits units s)
  expires : ∀ s u, P s → P (windowExpiry u s)

/-- P is kept by everything the shared operations are made of. -/
structure Kept (P : State → Prop) : Prop extends KeptCore P, KeptByWatch P

/-- P is kept by every single update that the watch engine's own operations are made of: the update of one unit that does not bring it into
FIRED or out of it, the marking of a firing, a unit's leaving FIRED, and what an action does. -/
structure KeptByUnits (P : State → Prop) : Prop where
  unit : ∀ s u f, ((f s.wch.units[u]).status = .fired ↔ s.wch.units[u].status = .fired) → P s → P (mapUnit u f s)
  marks : ∀ s u, P s → P (markFired u s)
  left : ∀ s u, P s → P (leaveFired u s)
  freeze : ∀ s r u, r = .isolate ∨ r = .freezeUnit → P s → P (requestFreeze r (some u) s)
  drip : ∀ s v, isSending s.sup.mode = true → P s → P (queueDrip v s)
  isolate : ∀ s, P s → P (isolateAction s)

/-! ## The watch engine -/

namespace KeptByUnits

variable (units : KeptByUnits P) (holds : P s)
include units holds

theorem armDependants (e : Arming) : P (armDependants e s) := by
  unfold Machine.armDependants
  refine foldl_induct (fun t u ht => ?_) allUnits holds
  split
  · refine units.unit t u _ ?_ ht
    obtain ⟨eq, was⟩ | ⟨eq, was⟩ | ⟨eq, was⟩ := armUnit_cases t.sup.cfg.units[u] t.wch.units[u] <;> simp_all
  · exact ht

theorem runAction (u : Fin 8) : P (runAction u s) := by
  unfold Machine.runAction
  split
  · exact holds
  · exact holds
  · split
    case isTrue sends => exact units.drip s _ sends holds
    · exact holds
  · exact units.isolate _ (units.freeze s _ u (.inl rfl) holds)
  · exact units.freeze s _ u (.inr rfl) holds

theorem fireUnit (u : Fin 8) : P (fireUnit u s) := units.armDependants (units.runAction (units.marks s u holds) u) _

theorem fireInDryCheck (u : Fin 8) : P (fireInDryCheck u s) :=
  units.armDependants (units.freeze _ _ u (.inl rfl) (units.marks s u holds)) _

theorem countSample (u : Fin 8) (v : Int) : P (countSample u v s) := by
  simp only [Machine.countSample]
  split
  · split
    · exact units.fireUnit holds u
    · exact units.unit s u _ .rfl holds
  · split
    · exact units.unit s u _ .rfl holds
    · exact holds

theorem clearSample (u : Fin 8) (v : Int) : P (clearSample u v s) := by
  simp only [Machine.clearSample]
  split
  · exact holds
  · split
    · exact units.unit s u _ .rfl holds
    · split
      · exact units.left s u holds
      · exact units.unit s u _ .rfl holds

theorem unitTakesSample (a : UnitStatus) (u : Fin 8) (v : Int) : P (unitTakesSample a u v s) := by
  have noted := units.unit s u (fun w => { w with last := some v }) .rfl holds
  cases a with
  | disarmed => exact noted
  | armed => exact units.countSample noted u v
  | fired => exact units.clearSample noted u v

theorem deliverSample (src : Source) (v : Int) : P (deliverSample src v s) := by
  simp only [Machine.deliverSample]
  split
  · refine foldl_induct (fun t u ht => ?_) allUnits holds
    split
    · exact units.unitTakesSample ht _ u v
    · exact ht
  · exact holds

theorem leaveFiredWhere (returns : Action → Bool) : P (leaveFiredWhere returns s) := by
  unfold Machine.leaveFiredWhere
  refine foldl_induct (fun t u ht => ?_) allUnits holds
  split
  · exact units.left t u ht
  · exact ht

theorem fireDryCheckUnits (list : List (Fin 8)) : P (fireDryCheckUnits list s) := by
  unfold Machine.fireDryCheckUnits
  refine foldl_induct (fun t u ht => ?_) list holds
  split
  · exact ht
  · exact units.fireInDryCheck ht u

theorem windowExpiry (u : Fin 8) : P (windowExpiry u s) := by
  unfold Machine.windowExpiry
  split
  case isTrue running => exact units.unit s u _ (by rw [running.1]; simp) holds
  · exact holds

omit holds in
theorem byWatch : KeptByWatch P where
  sample _ src v _ holds := units.deliverSample holds src v
  arms _ holds := units.armDependants holds _
  leaves _ returns holds := units.leaveFiredWhere holds returns
  fires _ list holds := units.fireDryCheckUnits holds list
  expires _ u holds := units.windowExpiry holds u

end KeptByUnits

/-! ## Modes, scans, the roster and conflicts -/

namespace KeptByModes

variable (kept : KeptByModes P) (holds : P s)
include kept holds

theorem lnk (g : Link → Link) : P (s.mapLnk g) := kept.line s id g holds

theorem updateAttn : P (updateAttn s) := kept.svc s _ holds

theorem queueDrip (v : Severity) : P (queueDrip v s) := by
  unfold Machine.queueDrip queueEvent
  exact kept.lnk holds _

theorem changeMode {m : Mode} (awake : isEvaluating m = true) : P (changeMode m s) := by
  have recorded := kept.record _ (.event (.mode m)) (kept.mode s m awake holds)
  have announced : P (announceOnEntry s.sup.mode m
      (if isSending m then setStatusPending (handEvent (.mode m) (s.mapSup fun p => { p with mode := m }))
        else handEvent (.mode m) (s.mapSup fun p => { p with mode := m }))) := by
    refine kept.lnk ?_ _
    split
    · exact kept.lnk recorded _
    · exact recorded
  have moved : isEvaluating (announceOnEntry s.sup.mode m
      (if isSending m then setStatusPending (handEvent (.mode m) (s.mapSup fun p => { p with mode := m }))
        else handEvent (.mode m) (s.mapSup fun p => { p with mode := m }))).sup.mode = true := by
    rw [announceOnEntry_sup]
    split <;> simpa using awake
  simp only [Machine.changeMode]
  cases m with
  | active | contained | isolated | conflict => exact kept.starts _ moved announced
  | joining => exact announced
  | starting | parked => cases awake

theorem evalContainment : P (evalContainment s) := by
  obtain ⟨eq, -⟩ | ⟨eq, -⟩ | ⟨eq, -⟩ := evalContainment_cases s
  all_goals rw [eq]
  · exact holds
  · exact kept.changeMode holds rfl
  · exact kept.changeMode holds rfl

theorem goActive : P (goActive s) := kept.evalContainment (kept.changeMode holds rfl)

theorem enterIsolated : P (enterIsolated s) :=
  kept.evalContainment (kept.queueDrip (kept.closes _ (kept.changeMode (m := .isolated) holds rfl)) _)

theorem failJoin : P (failJoin s) := kept.join s _ (fun _ => ⟨⟨⟨rfl, rfl, rfl, rfl, rfl⟩, rfl⟩, rfl, rfl⟩) holds

theorem failDryCheck : P (failDryCheck s) := kept.join s _ (fun _ => ⟨⟨⟨rfl, rfl, rfl, rfl, rfl⟩, rfl⟩, rfl, rfl⟩) holds

theorem isolateAction : P (isolateAction s) := by
  obtain ⟨-, eq⟩ | ⟨-, eq⟩ | ⟨-, eq⟩ | ⟨-, eq⟩ | ⟨-, eq⟩ := isolateAction_cases s
  all_goals rw [eq]
  · exact kept.enterIsolated holds
  · exact kept.enterIsolated (kept.failJoin holds)
  · exact kept.queueDrip (kept.closes _ holds) _
  · exact kept.closes _ holds
  · exact holds

theorem enterJoining : P (enterJoining s) := by
  have joined := kept.join _ (fun p => { p with
    dryCheck := .pending, joinFaults := 0, joinExpired := false, joinTimer := some (msec (2 * p.cfg.pAnn)) })
    (fun _ => ⟨⟨⟨rfl, rfl, rfl, rfl, rfl⟩, rfl⟩, rfl, rfl⟩) (kept.changeMode (m := .joining) holds rfl)
  exact kept.closes _ (kept.triggers _ (by simp [isEvaluating]) joined)

theorem passDryCheck : P (passDryCheck s) := by
  have opened := kept.opens _ (kept.join s (fun p => { p with dryCheck := .passed })
    (fun _ => ⟨⟨⟨rfl, rfl, rfl, rfl, rfl⟩, rfl⟩, rfl, rfl⟩) holds)
  simp only [Machine.passDryCheck]
  split
  · exact kept.goActive opened
  · exact opened

theorem rosterTook (f : RxFrame) (other : some f.src ≠ s.sup.ownAddr) :
    P (rosterTook f.src (readPeerFrame f.kind f.payload) s) := by
  have took := kept.ros s _ (.takes f other) holds
  simp only [Machine.rosterTook]
  split
  · exact kept.evalContainment took
  · exact took

theorem conflictReport : P (conflictReport s) := by
  have entered : P (enterConflict s) := by
    have moved := kept.join _ (fun p => { p with joinTimer := none }) (fun _ => ⟨⟨⟨rfl, rfl, rfl, rfl, rfl⟩, rfl⟩, rfl, rfl⟩)
      (kept.changeMode (m := .conflict) holds rfl)
    simp only [enterConflict, conflictAtLink, abandonAttempt]
    split
    · exact kept.lnk (kept.line _ _ _ moved) _
    · exact kept.lnk moved _
  unfold Machine.conflictReport
  split
  · exact holds
  · exact holds
  all_goals exact entered

omit holds in
/-- A property that reads neither the units nor WATCH_FIRED is kept by the watch engine too. -/
theorem byWatch (wch : ∀ s f, P s → P (s.mapWch f))
    (watchFired : ∀ s (b : Supervisor → Bool), P s → P (s.mapSup fun p => { p with watchFired := b p })) : KeptByWatch P :=
  KeptByUnits.byWatch
    { unit := fun s u f _ holds => wch s _ holds
      marks := fun s u holds => by
        simp only [markFired, setWatchFired]
        exact watchFired _ _ (kept.record _ _ (wch s _ holds))
      left := fun s u holds => by
        simp only [leaveFired, reevalWatchFired]
        exact watchFired _ _ (kept.record _ _ (wch s _ holds))
      freeze := kept.freeze
      drip := fun _ v _ holds => kept.queueDrip holds v
      isolate := fun _ holds => kept.isolateAction holds }

end KeptByModes

/-! ## The row line and the join's commands -/

/-- P is kept by the moves of the mode and by the watch engine. -/
structure KeptByMoves (P : State → Prop) : Prop extends KeptByModes P, KeptByWatch P

namespace KeptByMoves

variable (kept : KeptByMoves P) (holds : P s)
include kept holds

theorem watchPeerDrip (addr : Address) : P (watchPeerDrip addr s) := by
  unfold Machine.watchPeerDrip
  split
  · exact kept.sample _ _ _ nofun (kept.arms _ holds)
  · exact holds

theorem dripPeerDrip : P (dripPeerDrip s) := by
  unfold Machine.dripPeerDrip
  split
  case isTrue evaluating => exact kept.triggers s evaluating holds
  · exact holds

theorem takeFrame (f : RxFrame) (other : some f.src ≠ s.sup.ownAddr) :
    P (takeFrame f.src (readPeerFrame f.kind f.payload) s) := by
  have took := kept.rosterTook holds f other
  obtain ⟨seg, sev, zones, -, -, arrives⟩ | ⟨-, ends⟩ := takeFrame_cases f.src (readPeerFrame f.kind f.payload) s
  · rw [arrives]
    exact kept.dripPeerDrip (kept.watchPeerDrip (kept.record _ (.event (.peerDrip f.src sev)) took) f.src)
  · rw [ends]
    exact took

theorem lineOutcome (outcome : LineOutcome s t) : P t := by
  cases outcome with
  | link outcome =>
    cases outcome with
    | line f g => exact kept.line s f g holds
    | holdoff f g => exact kept.record _ _ (kept.line s f g holds)
  | conflict f g => exact kept.conflictReport (kept.line s f g holds)
  | peer f g _ frame other => exact kept.takeFrame (kept.line s f g holds) frame other

theorem resolveDryCheck : P (resolveDryCheck s) := by
  simp only [Machine.resolveDryCheck]
  split
  · exact kept.passDryCheck holds
  · exact kept.enterIsolated (kept.fires _ _ (kept.failDryCheck holds))

end KeptByMoves

/-- The commands that only move the mode, the roster, the row line or the units, or answer. -/
def isMove : Instr → Bool
  | .reset | .resetRelease _ _ | .loadEnd _ | .conversionEnd _ | .periodStart | .pullInExpiry | .strokeTimerExpiry | .freeze
  | .resume | .park | .scanTimerExpiry | .referencePhaseEnd _ | .referenceFault | .sensorPhaseEnd _ | .counterOverflow
  | .acquisitionTimerExpiry | .flowRisingEdge _ | .noFlow => false
  | _ => true

theorem KeptByMoves.after (kept : KeptByMoves P) {c : Instr} (moves : isMove c = true) (holds : P s) : P (after c s) := by
  have answered (r : ResultCode) (item : List Byte) {t : State} (ht : P t) : P (answer r item t) := kept.svc t _ ht
  have released {f : State → State} : P (f s) → P (whenReleased f s) := whenReleased_keeps holds
  have line {c : Instr} (hc : isLineCommand c = true) : P (Machine.after c s) := by
    obtain outcome | ⟨x, outcome, eq⟩ := after_line_outcome hc s
    · exact kept.lineOutcome holds (.link outcome)
    · exact eq ▸ kept.updateAttn (kept.lineOutcome holds outcome)
  have read {c : Instr} (hc : isReadCommand c = true) : P (Machine.after c s) := by
    obtain ⟨f, eq, -⟩ := after_read hc s
    exact eq ▸ kept.svc s f holds
  cases c with
  | reset | resetRelease | loadEnd | conversionEnd | periodStart | pullInExpiry | strokeTimerExpiry | freeze | resume | park
  | scanTimerExpiry | referencePhaseEnd | referenceFault | sensorPhaseEnd | counterOverflow | acquisitionTimerExpiry | flowRisingEdge
  | noFlow => cases moves
  | joinTimerExpiry =>
    have stopped := kept.join s (fun p => { p with joinTimer := none }) (fun _ => ⟨⟨⟨rfl, rfl, rfl, rfl, rfl⟩, rfl⟩, rfl, rfl⟩) holds
    simp only [Machine.after, joinTimerExpiry]
    split
    · split
      · split
        · exact kept.updateAttn (kept.goActive stopped)
        · exact kept.join _ _ (fun _ => ⟨⟨⟨rfl, rfl, rfl, rfl, rfl⟩, rfl⟩, rfl, rfl⟩) stopped
        · exact stopped
        · exact stopped
      · exact stopped
    · exact holds
  | entryStale addr =>
    simp only [Machine.after, entryStale]
    split
    · split
      · exact kept.updateAttn (kept.evalContainment (kept.ros s _ (.stale addr) holds))
      · exact holds
    · exact holds
  | entryRemoval addr =>
    simp only [Machine.after, entryRemoval]
    split
    · exact kept.updateAttn (kept.evalContainment (kept.ros s _ (.removal addr) holds))
    · exact holds
  | windowExpiry u => exact kept.expires s u holds
  | release =>
    simp only [Machine.after, releaseCommand]
    refine released ?_
    split
    · split
      · exact answered _ _ holds
      · exact answered _ _
          (kept.updateAttn (kept.lnk (kept.opens _ (kept.goActive (kept.leaves s _ holds))) _))
    · exact answered _ _ holds
  | acknowledge =>
    simp only [Machine.after, acknowledgeCommand]
    exact released (answered _ _ (kept.updateAttn (kept.leaves s _ holds)))
  | scan =>
    simp only [Machine.after, scanCommand]
    refine released ?_
    split
    case isTrue evaluating => exact answered _ _ (kept.triggers s evaluating holds)
    · exact answered _ _ holds
  | unpark =>
    simp only [Machine.after, unparkCommand]
    refine released ?_
    split
    · exact answered _ _ (kept.updateAttn (kept.enterJoining holds))
    · exact answered _ _ holds
  | ident | station | zones | watch | roster | captureInfo | capture | badRequest | serviceRead => exact read rfl
  | _ => exact line rfl

/-! ## Properties that hold whatever the drip sensing unit and the measurement unit hold -/

namespace KeptCore

variable (kept : KeptCore P) (holds : P s)
include kept

theorem byModes : KeptByModes P where
  line := kept.line
  ros := kept.ros
  svc := kept.svc
  join s f keeps := kept.station s f fun p => (keeps p).1
  mode := kept.mode
  record := kept.record
  freeze := kept.freeze
  opens := kept.opens
  closes := kept.closes
  starts s _ := kept.dsu s _
  triggers s _ := kept.dsu s _

/-- A property that reads neither the units nor WATCH_FIRED is kept by the watch engine too. -/
theorem toKept (wch : ∀ s f, P s → P (s.mapWch f))
    (watchFired : ∀ s (b : Supervisor → Bool), P s → P (s.mapSup fun p => { p with watchFired := b p })) : Kept P :=
  { toKeptCore := kept, toKeptByWatch := kept.byModes.byWatch wch watchFired }

include holds

theorem reevalSensorFault : P (reevalSensorFault s) := kept.station s _ (fun _ => ⟨⟨rfl, rfl, rfl, rfl, rfl⟩, rfl⟩) holds

omit holds in
/-- The move to PARKED keeps what its change of the mode itself keeps. -/
theorem changeMode_parked (moved : P (s.mapSup fun p => { p with mode := .parked })) : P (changeMode .parked s) := by
  have recorded := kept.record _ (.event (.mode .parked)) moved
  simp only [changeMode, scanTimerOnEntry]
  exact kept.dsu _ _ (kept.byModes.lnk recorded _)

theorem endScan : P (endScan s) := by
  have ended := kept.dsu s (fun d => if d.rescan then beginScan { d with rescan := false }
    else { d with scan := .idle, counter := none, timeBase := none }) holds
  simp only [Machine.endScan]
  split
  · exact kept.dsu _ _ ended
  · exact ended

theorem joinFault : P (joinFault s) := by
  have counted := kept.station s (fun p => { p with joinFaults := p.joinFaults + 1 }) (fun _ => ⟨⟨rfl, rfl, rfl, rfl, rfl⟩, rfl⟩) holds
  have degraded := kept.station _ (fun p => { p with joinDegrade := true }) (fun _ => ⟨⟨rfl, rfl, rfl, rfl, rfl⟩, rfl⟩) counted
  simp only [Machine.joinFault]
  split
  · exact counted
  · split
    · exact kept.byModes.enterIsolated (kept.byModes.failDryCheck degraded)
    · exact kept.byModes.passDryCheck degraded

end KeptCore

/-! ## Commands in stages -/

namespace Kept

variable (kept : Kept P) (holds : P s)
include kept holds

omit holds in
theorem byMoves : KeptByMoves P := { toKeptByModes := kept.byModes, toKeptByWatch := kept.toKeptByWatch }

theorem deliverReading (r : ZoneReading) : P (deliverReading r s) :=
  kept.reevalSensorFault (kept.sample _ _ _ nofun (kept.record _ _ (kept.dsu s _ holds)))

theorem afterSensorPhase (z : Fin 4) : P (afterSensorPhase z s) := by
  unfold Machine.afterSensorPhase
  split
  · exact kept.dsu s _ holds
  · unfold completeScan
    split
    · exact kept.endScan (kept.byMoves.resolveDryCheck holds)
    · exact kept.endScan holds

theorem referenceFault : P (referenceFault s) := by
  have recorded := kept.record _ (.event .refFault)
    (kept.dsu s (fun d => { d with refFaults := min (d.refFaults + 1) 255 }) holds)
  have ended : P (Machine.endScan (faultTold s)) := by
    refine kept.endScan (kept.reevalSensorFault ?_)
    split
    · exact kept.joinFault recorded
    · exact recorded
  by_cases scan : s.dsu.scan = .reference
  · rw [referenceFault_scanning scan]
    refine kept.byModes.updateAttn ?_
    split
    · exact kept.dsu _ _ ended
    · exact ended
  · rw [referenceFault_none scan]
    exact holds

end Kept

/-! ## Commands without an update of their own -/

/-- The commands that work on the clock, the configuration, the share values, the valve or the capture itself. -/
def hasOwnUpdate : Instr → Bool
  | .reset | .resetRelease _ _ | .loadEnd _ | .conversionEnd _ | .periodStart | .pullInExpiry | .strokeTimerExpiry | .freeze
  | .resume | .park => true
  | _ => false

/-- Every other command keeps what the shared operations keep. -/
theorem Kept.after (kept : Kept P) {c : Instr} (shared : hasOwnUpdate c = false) (holds : P s) : P (after c s) := by
  have attn {t : State} (ht : P t) : P (updateAttn t) := kept.byModes.updateAttn ht
  cases c with
  | reset | resetRelease | loadEnd | conversionEnd | periodStart | pullInExpiry | strokeTimerExpiry | freeze | resume | park =>
    cases shared
  | scanTimerExpiry =>
    simp only [Machine.after, scanTimerExpiry]
    split
    · exact kept.dsu _ _ (kept.dsu s _ holds)
    · exact holds
  | referencePhaseEnd ticks =>
    simp only [Machine.after, referencePhaseEnd]
    split
    · exact attn (kept.dsu _ _ (kept.reevalSensorFault
        (kept.station _ _ (fun _ => ⟨⟨rfl, rfl, rfl, rfl, rfl⟩, rfl⟩) (kept.dsu s _ holds))))
    · exact holds
  | referenceFault => exact kept.referenceFault holds
  | sensorPhaseEnd cycles =>
    simp only [Machine.after, sensorPhaseEnd]
    split
    · split
      · exact attn (kept.afterSensorPhase (kept.deliverReading holds _) _)
      · exact holds
    · exact holds
    · exact holds
  | counterOverflow =>
    simp only [Machine.after, counterOverflow]
    split
    · exact attn (kept.afterSensorPhase (kept.deliverReading holds _) _)
    · exact holds
    · exact holds
  | acquisitionTimerExpiry =>
    simp only [Machine.after, acquisitionTimerExpiry]
    split
    · exact kept.msu s _ holds
    · exact holds
  | flowRisingEdge ticks =>
    simp only [Machine.after, flowRisingEdge]
    split
    · exact holds
    · split
      · exact kept.msu s _ holds
      · split
        · exact holds
        · exact kept.msu s _ holds
  | noFlow =>
    simp only [Machine.after, noFlow]
    split
    · exact kept.msu s _ holds
    · exact holds
  | _ => exact kept.byMoves.after rfl holds

end Sys2Proof.Machine
end

section
/-! PROOF. The end of a conversion, and the properties that read neither the valve drive nor the share computer: they are kept by every
command but the few that write the capture history, the straps or the configuration set outright. -/

namespace Sys2Proof.Machine

variable {s t : State} {P : State → Prop}

/-! ## The end of a conversion (R92, R97) -/

theorem KeptByMoves.deliverIf (kept : KeptByMoves P) (holds : P s) {src : Source} (named : src ≠ .none) (valid : Bool) (v : Option Int) :
    P (deliverIf src valid v s) := by
  unfold Machine.deliverIf
  split
  · exact kept.sample s _ _ named holds
  · exact holds
  · exact holds

theorem KeptByMoves.deliverSetSamples (kept : KeptByMoves P) (holds : P s) (m : MeasurementSet) : P (deliverSetSamples m s) := by
  unfold Machine.deliverSetSamples
  exact kept.deliverIf (kept.deliverIf (kept.deliverIf holds (by simp) _ _) (by simp) _ _) (by simp) _ _

/-- The delivery of a set keeps what the control step's own updates keep: the new figures with the duty sent, and the processed set. -/
theorem KeptByMoves.deliverSet (kept : KeptByMoves P) (m : MeasurementSet)
    (figures : ∀ s m, P s → P (receiveDuty (stepShare m s).duty (s.mapShr fun _ => stepShare m s)))
    (processed : ∀ s m, P s → P (processedSet m s)) (updated : P (reevalSensorFault s)) : P (deliverSet m s) := by
  have controlled {s : State} (hs : P s) : P (controlStep m s) := by
    simp only [controlStep]
    refine processed _ m ?_
    split
    · exact kept.sample _ _ _ nofun (figures s m hs)
    · exact figures s m hs
  simp only [Machine.deliverSet]
  split
  · exact controlled (kept.deliverSetSamples updated m)
  · exact processed _ m (kept.deliverSetSamples updated m)

theorem Kept.conversionEnd (kept : Kept P) (code : BitVec 12)
    (figures : ∀ s m, P s → P (receiveDuty (stepShare m s).duty (s.mapShr fun _ => stepShare m s)))
    (processed : ∀ s m, P s → P (processedSet m s)) (holds : P s) : P (conversionEnd code s) := by
  simp only [Machine.conversionEnd]
  split
  · exact holds
  · split
    · exact kept.msu s _ holds
    · exact kept.byModes.updateAttn (kept.byMoves.deliverSet _ figures processed (kept.reevalSensorFault (kept.msu s _ holds)))

/-! ## Properties blind to the valve drive and the share computer -/

/-- P is kept by every single update outside the mode's and the straps' fields of the supervisor, the clock and the capture's state, and outside the
watch engine, whatever it writes, and by every move of the mode and every record. -/
structure KeptBlindCore (P : State → Prop) : Prop where
  line : ∀ s f g, P s → P ((s.mapRli f).mapLnk g)
  ros : ∀ s f, RosterUpdate s f → P s → P (s.mapRos f)
  dsu : ∀ s f, P s → P (s.mapDsu f)
  msu : ∀ s f, P s → P (s.mapMsu f)
  svc : ∀ s f, P s → P (s.mapSvc f)
  vlv : ∀ s f, P s → P (s.mapVlv f)
  shr : ∀ s f, P s → P (s.mapShr f)
  station : ∀ s f, (∀ p, KeepsStation p (f p)) → P s → P (s.mapSup f)
  mode : ∀ s m, m ≠ .starting → P s → P (s.mapSup fun p => { p with mode := m })
  record : ∀ s b, P s → P (handRecord b s)
  freeze : ∀ s r u, r = .isolate ∨ r = .freezeUnit → P s → P (requestFreeze r (some u) s)

/-- So it is by what the watch engine does. -/
structure KeptBlind (P : State → Prop) : Prop extends KeptBlindCore P, KeptByWatch P

namespace KeptBlindCore

variable (blind : KeptBlindCore P)
include blind

theorem enterValve (v : ValveState) (holds : P s) : P (enterValve v s) := blind.record _ _ (blind.vlv s _ holds)

theorem startOpening (holds : P s) : P (startOpening s) := blind.enterValve _ (blind.vlv s _ holds)

theorem startClosing (holds : P s) : P (startClosing s) := blind.enterValve _ (blind.vlv s _ holds)

theorem core : KeptCore P where
  line := blind.line
  ros := blind.ros
  dsu := blind.dsu
  msu := blind.msu
  svc := blind.svc
  station := blind.station
  mode s m awake := blind.mode s m (by rintro rfl; cases awake)
  record := blind.record
  freeze := blind.freeze
  opens s holds := by
    obtain ⟨-, eq⟩ | ⟨-, eq⟩ | ⟨-, eq⟩ := openRequest_cases s
    all_goals rw [eq]
    · exact blind.startOpening holds
    · exact holds
    · exact blind.vlv s _ holds
  closes s holds := by
    obtain ⟨-, eq⟩ | ⟨-, eq⟩ | ⟨-, eq⟩ := closeRequest_cases s
    all_goals rw [eq]
    · exact holds
    · exact blind.startClosing holds
    · exact blind.vlv s _ holds

/-- A property that reads neither the units nor WATCH_FIRED is kept by the watch engine too. -/
theorem toBlind (wch : ∀ s f, P s → P (s.mapWch f))
    (watchFired : ∀ s (b : Supervisor → Bool), P s → P (s.mapSup fun p => { p with watchFired := b p })) : KeptBlind P :=
  { toKeptBlindCore := blind, toKeptByWatch := blind.core.byModes.byWatch wch watchFired }

theorem receiveDuty (duty : Nat) (holds : P s) : P (receiveDuty duty s) := by
  unfold Machine.receiveDuty
  split
  · exact blind.vlv s _ holds
  · exact blind.vlv s _ holds
  all_goals exact holds

end KeptBlindCore

namespace KeptBlind

variable (blind : KeptBlind P)
include blind

theorem kept : Kept P := { toKeptCore := blind.core, toKeptByWatch := blind.toKeptByWatch }

theorem acceptPark (holds : P s) : P (acceptPark s) := by
  have closed := blind.kept.closes _ (blind.kept.changeMode_parked (blind.mode s .parked nofun holds))
  have queued := blind.kept.byModes.lnk (blind.kept.byModes.lnk closed fun l => { l with queue := enqueueFrame .leave l.queue })
    fun l => { l with statusPending := false, renewed := false }
  exact blind.kept.byModes.updateAttn (blind.shr _ _ (blind.kept.reevalSensorFault (blind.dsu _ _ queued)))

theorem strokeTimerExpiry (holds : P s) : P (strokeTimerExpiry s) := by
  simp only [Machine.strokeTimerExpiry]
  have checked := blind.vlv s (fun d => { d with stroke := none, reopen := false, strokeFault := !strokeCheck s }) holds
  split
  · refine blind.kept.byModes.updateAttn ?_
    split
    · exact blind.startOpening (blind.enterValve .closed checked)
    · exact blind.enterValve .closed checked
    · exact blind.startOpening checked
    · exact blind.enterValve .stuck checked
  all_goals exact holds

end KeptBlind

/-- The commands that write the straps, the configuration set or the capture's state outright. -/
def startsOrFreezes : Instr → Bool
  | .reset | .resetRelease _ _ | .loadEnd _ | .freeze | .resume => true
  | _ => false

theorem KeptBlind.after (blind : KeptBlind P) (processed : ∀ s m, P s → P (processedSet m s)) {c : Instr}
    (shared : startsOrFreezes c = false) (holds : P s) : P (after c s) := by
  cases c with
  | reset | resetRelease | loadEnd | freeze | resume => cases shared
  | conversionEnd code =>
    exact blind.kept.conversionEnd code (fun s m hs => blind.receiveDuty _ (blind.shr s _ hs)) processed holds
  | periodStart =>
    simp only [Machine.after, periodStart]
    split
    · exact blind.vlv s _ holds
    all_goals exact holds
  | pullInExpiry =>
    simp only [Machine.after, pullInExpiry]
    split
    · exact blind.enterValve _ (blind.vlv s _ holds)
    all_goals exact holds
  | strokeTimerExpiry => exact blind.strokeTimerExpiry holds
  | park =>
    simp only [Machine.after, parkCommand]
    refine whenReleased_keeps holds ?_
    split
    · exact blind.svc _ _ (blind.acceptPark holds)
    · exact blind.svc _ _ holds
  | _ => exact blind.kept.after rfl holds

/-- The end of the load keeps what its own update of the straps and the set keeps. -/
theorem KeptBlind.loadEnd (blind : KeptBlind P) (image : List Byte) (holds : P s)
    (installed : s.sup.loading = true →
      P ((installConfig (loadImage image) s).mapWch fun _ => freshWatch (loadImage image).cfg)) : P (loadEnd image s) := by
  simp only [Machine.loadEnd]
  split
  case isTrue loading =>
    refine blind.kept.byModes.updateAttn (blind.kept.byModes.enterJoining ?_)
    simp only [endStarting]
    exact blind.line _ _ _ (blind.msu _ _ (blind.shr _ _ (installed loading)))
  · exact holds

end Sys2Proof.Machine
end

section
/-! PROOF. The valve drive (R142 to R151): each operation that moves the valve keeps the outputs and timers of its state, and O58 from
these. -/

namespace Sys2Proof.Machine

variable {s t : State}

open Safety

theorem valveSafe_openRequest (safe : ValveSafe s) : ValveSafe (openRequest s) := by
  obtain ⟨shut, eq⟩ | ⟨-, eq⟩ | ⟨closing, eq⟩ := openRequest_cases s
  all_goals rw [eq]
  · obtain ⟨applied, -, -, -, -, -, -, stroke, reopen, -⟩ := safe
    obtain shut | shut := shut <;> simp_all [ValveSafe]
  · exact safe
  · simpa [ValveSafe, closing] using safe

theorem valveSafe_closeRequest (safe : ValveSafe s) : ValveSafe (closeRequest s) := by
  obtain ⟨-, eq⟩ | ⟨driven, eq⟩ | ⟨closing, eq⟩ := closeRequest_cases s
  all_goals rw [eq]
  · exact safe
  · simp [ValveSafe]
  · simpa [ValveSafe, closing] using safe

theorem valveSafe_core : KeptCore ValveSafe where
  line _ _ _ := id
  ros _ _ _ := id
  dsu _ _ := id
  msu _ _ := id
  svc _ _ := id
  station _ _ _ := id
  mode _ _ _ := id
  record _ _ := id
  freeze _ _ _ _ := id
  opens _ := valveSafe_openRequest
  closes _ := valveSafe_closeRequest

theorem valveSafe_kept : Kept ValveSafe := valveSafe_core.toKept (fun _ _ => id) fun _ _ => id

theorem valveSafe_receiveDuty {duty : Nat} (fits : duty ≤ 1023) (safe : ValveSafe s) : ValveSafe (receiveDuty duty s) := by
  unfold ValveSafe
  rw [receiveDuty_vlv]
  split
  · simp_all [ValveSafe]
  · exact safe

theorem valveSafe_processedSet (m : MeasurementSet) (safe : ValveSafe s) : ValveSafe (processedSet m s) := by
  unfold ValveSafe
  rw [processedSet_vlv]
  exact safe

theorem valveSafe_strokeTimerExpiry (safe : ValveSafe s) : ValveSafe (strokeTimerExpiry s) := by
  unfold strokeTimerExpiry
  split
  case h_1 closing =>
    obtain ⟨applied, driven, -, pending, -, -, pullIn, -, -, -⟩ := safe
    refine valveSafe_kept.byModes.updateAttn ?_
    cases good : strokeCheck s <;> cases again : s.vlv.reopen <;> simp_all [ValveSafe]
  all_goals exact safe

theorem valveSafe_after (c : Instr) (safe : ValveSafe s) : ValveSafe (after c s) := by
  cases c with
  | reset => simp [after, resetPart, ValveSafe, State.reset]
  | resetRelease addr seg =>
    simp only [after, resetRelease]
    split <;> exact safe
  | loadEnd image =>
    simp only [after, loadEnd]
    split
    · exact valveSafe_kept.byModes.updateAttn (valveSafe_kept.byModes.enterJoining (s := endStarting _) safe)
    · exact safe
  | conversionEnd code =>
    exact valveSafe_kept.conversionEnd code (fun s m safe => valveSafe_receiveDuty (s := s.mapShr _) (dutyOf_le _ _ _) safe)
      (fun _ m => valveSafe_processedSet m) safe
  | periodStart =>
    simp only [after, periodStart]
    split
    case h_1 opened => simp_all [ValveSafe]
    all_goals exact safe
  | pullInExpiry =>
    simp only [after, pullInExpiry]
    split
    case h_1 opening => simp_all [ValveSafe]
    all_goals exact safe
  | strokeTimerExpiry => exact valveSafe_strokeTimerExpiry safe
  | freeze => exact whenReleased_keeps safe safe
  | resume =>
    simp only [after, resumeCommand]
    refine whenReleased_keeps safe ?_
    split <;> exact safe
  | park =>
    simp only [after, parkCommand]
    refine whenReleased_keeps safe ?_
    split
    · refine valveSafe_kept.svc _ _ ?_
      simpa [acceptPark, ValveSafe] using
        valveSafe_closeRequest (s := changeMode .parked s) (by simpa [ValveSafe] using safe)
    · exact safe
  | _ => exact valveSafe_kept.after rfl safe

theorem valveSafe_tickState (safe : ValveSafe s) : ValveSafe (tickState s) := by
  simpa [ValveSafe, tickState, tickValve, tickDown] using safe

/-- Settles O58: the requests, the duties and the valve's own events each leave the outputs and timers of the state they leave. -/
theorem valveOutputsAreKept : Obligations.ValveOutputsAreKept := by
  unfold Obligations.ValveOutputsAreKept
  intro s t safe
  exact step_leads (fun _ _ => id) (fun _ _ => id) (fun _ => id) (fun c _ => valveSafe_after c) (fun _ => valveSafe_tickState) safe

end Sys2Proof.Machine
end

section
/-! PROOF. The configuration load (R4, R5): what the field tests leave of a checked image, which repairs change a set, the ranges that
hold whatever the image says, and O6 from these. -/

namespace Sys2Proof.Machine

open Safety

variable {image : List Byte}

/-! ## The image's bytes -/

theorem imageByte_lt (image : List Byte) (i : Nat) : imageByte image i < 256 := BitVec.isLt _

theorem imageS16_eq (image : List Byte) (i : Nat) : imageS16 image i = signed16 (bytes2 image i) := by
  have first := imageByte_lt image i
  have second := imageByte_lt image (i + 1)
  have fits : imageU16 image i < 65536 := by simp only [imageU16]; omega
  simp only [imageS16, signed16, show bytes2 image i = imageU16 image i from rfl, BitVec.toInt_ofNat', Int.bmod_def]
  omega

theorem imageS24_eq (image : List Byte) (i : Nat) : imageS24 image i = signed24 (bytes3 image i) := by
  have first := imageByte_lt image i
  have second := imageByte_lt image (i + 1)
  have third := imageByte_lt image (i + 1 + 1)
  have fits : bytes3 image i < 16777216 := by simp only [bytes3, bytes2]; omega
  simp only [imageS24, signed24, show 65536 * imageByte image i + imageU16 image (i + 1) = bytes3 image i from rfl,
    BitVec.toInt_ofNat', Int.bmod_def]
  omega

theorem filterOfCode_val (n : Nat) :
    (testCode true (filterOfCode n)).val = (if n = 0 then false else true) ∧ ((testCode true (filterOfCode n)).bad = true ↔ 1 < n) := by
  match n with
  | 0 | 1 => decide
  | n + 2 => simp [filterOfCode, testCode]

theorem zoneOfCode_val (d : Fin 4) (n : Nat) :
    (testCode d (zoneOfCode n)).val.val = (if n ≤ 3 then n else d.val) ∧ ((testCode d (zoneOfCode n)).bad = true ↔ 3 < n) := by
  match n with
  | 0 | 1 | 2 | 3 => simp [zoneOfCode, testCode]
  | n + 4 => simp [zoneOfCode, testCode]

/-! ## The field tests (R4) -/

theorem natField_taken (held least greatest dflt : Nat) :
    NatField.taken ⟨held, least, greatest, dflt, (testNat least greatest dflt held).val⟩ := by
  rw [(testNat_spec least greatest dflt held).1]
  exact ⟨fun inRange => if_pos inRange, fun out => if_neg out⟩

/-- A test takes a value of the field's range whenever the default lies in it. -/
theorem testNat_inRange {lo hi d : Nat} (v : Nat) (dflt : lo ≤ d ∧ d ≤ hi) :
    lo ≤ (testNat lo hi d v).val ∧ (testNat lo hi d v).val ≤ hi := by
  rw [(testNat_spec lo hi d v).1]
  split
  · assumption
  · exact dflt

theorem testInt_inRange {lo hi d : Int} (v : Int) (dflt : lo ≤ d ∧ d ≤ hi) :
    lo ≤ (testInt lo hi d v).val ∧ (testInt lo hi d v).val ≤ hi := by
  rw [(testInt_spec lo hi d v).1]
  split
  · assumption
  · exact dflt

theorem testTable_bad (image : List Byte) (i hi : Nat) (d : Vector Nat 9) :
    (testTable image i hi d).bad = true ↔ ∃ k : Fin 9, hi < bytes2 image (i + 2 * k.val) := by
  simp [testTable, (testNat_spec _ _ _ _).2, Fin.exists_fin_succ, bytes2, imageU16, or_assoc]

theorem readUnit_fields (image : List Byte) (u : Fin 8) : UnitFields image u (readUnit image u).val := by
  have lowByte (i : Nat) : (1 ≤ imageByte image i ∧ imageByte image i ≤ 255) ↔ 1 ≤ imageByte image i :=
    and_iff_left (Nat.le_of_lt_succ (imageByte_lt image i))
  refine ⟨?_, ?_, ?_, ?_, ?_, ?_, ?_, ?_, ?_, ?_, ?_⟩
  · exact ((testCode_spec sourceCode sourceOfCode sourceOfCode_iff _ _).imp_right And.left)
  · exact ((testCode_spec comparisonCode comparisonOfCode comparisonOfCode_iff _ _).imp_right And.left)
  · rw [← imageS24_eq]; exact (testInt_spec _ _ _ _).1
  · rw [← imageS24_eq]; exact (testInt_spec _ _ _ _).1
  · exact (testNat_spec 1 255 _ _).1.trans (if_congr (lowByte _) rfl rfl)
  · exact ((testCode_spec countModeCode countModeOfCode countModeOfCode_iff _ _).imp_right And.left)
  · exact ((testCode_spec armingCode armingOfCode armingOfCode_iff _ _).imp_right And.left)
  · exact (testNat_spec 0 60000 _ _).1.trans (if_congr (and_iff_right (Nat.zero_le _)) rfl rfl)
  · exact ((testCode_spec actionCode actionOfCode actionOfCode_iff _ _).imp_right And.left)
  · exact ((testCode_spec latchCode latchOfCode latchOfCode_iff _ _).imp_right And.left)
  · exact (testNat_spec 1 255 _ _).1.trans (if_congr (lowByte _) rfl rfl)

theorem readUnit_bad (image : List Byte) (u : Fin 8) : (readUnit image u).bad = true ↔ UnitOutOfRange image u := by
  have zero (i : Nat) : ¬(1 ≤ imageByte image i ∧ imageByte image i ≤ 255) ↔ imageByte image i = 0 := by
    have := imageByte_lt image i
    omega
  simp only [readUnit, UnitOutOfRange, Bool.or_eq_true, or_assoc, (testNat_spec _ _ _ _).2, (testInt_spec _ _ _ _).2, zero,
    (testCode_spec sourceCode sourceOfCode sourceOfCode_iff _ _).2.2,
    (testCode_spec comparisonCode comparisonOfCode comparisonOfCode_iff _ _).2.2,
    (testCode_spec countModeCode countModeOfCode countModeOfCode_iff _ _).2.2,
    (testCode_spec armingCode armingOfCode armingOfCode_iff _ _).2.2,
    (testCode_spec actionCode actionOfCode actionOfCode_iff _ _).2.2,
    (testCode_spec latchCode latchOfCode latchOfCode_iff _ _).2.2,
    imageS24_eq, Nat.zero_le, true_and, not_le]
  rfl

theorem testFields_units (image : List Byte) (u : Fin 8) : (testFields image).val.units[u] = (readUnit image u).val := by
  fin_cases u <;> rfl

theorem testFields_analog (image : List Byte) (k : Fin 4) :
    (testFields image).val.analog[k] =
      { low := signed16 (bytes2 image (68 + 4 * k.val)), high := signed16 (bytes2 image (70 + 4 * k.val)) } := by
  have read : (testFields image).val.analog[k] = readScale image k := by fin_cases k <;> rfl
  rw [read, readScale, imageS16_eq, imageS16_eq]

theorem testFields_tables (image : List Byte) (k : Fin 9) :
    (testFields image).val.flowPoints[k] =
        (if bytes2 image (20 + 2 * k.val) ≤ 2000 then bytes2 image (20 + 2 * k.val) else (tableDefault k).1) ∧
      (testFields image).val.dutyPoints[k] =
        (if bytes2 image (38 + 2 * k.val) ≤ 1023 then bytes2 image (38 + 2 * k.val) else (tableDefault k).2) :=
  ⟨testTable_val image 20 2000 defaultFlowPoints k, testTable_val image 38 1023 defaultDutyPoints k⟩

theorem testFields_fields (image : List Byte) : ImageFields image (testFields image).val := by
  refine ⟨?_, (filterOfCode_val _).1, testFields_tables image, testFields_analog image, (zoneOfCode_val 0 _).1, (zoneOfCode_val 3 _).1,
    fun u => ?_⟩
  · repeat' refine List.forall_mem_cons.2 ⟨natField_taken _ _ _ _, ?_⟩
    exact List.forall_mem_nil _
  · rw [testFields_units]
    exact readUnit_fields image u

theorem testFields_bad (image : List Byte) : (testFields image).bad = true ↔ ImageOutOfRange image := by
  have units : (∃ u : Fin 8, UnitOutOfRange image u) ↔
      (readUnit image 0).bad = true ∨ (readUnit image 1).bad = true ∨ (readUnit image 2).bad = true ∨ (readUnit image 3).bad = true ∨
        (readUnit image 4).bad = true ∨ (readUnit image 5).bad = true ∨ (readUnit image 6).bad = true ∨
        (readUnit image 7).bad = true := by
    simp only [readUnit_bad]
    simp [Fin.exists_fin_succ]
  have tables : (∃ k : Fin 9, 2000 < bytes2 image (20 + 2 * k.val) ∨ 1023 < bytes2 image (38 + 2 * k.val)) ↔
      (testTable image 20 2000 defaultConfig.flowPoints).bad = true ∨ (testTable image 38 1023 defaultConfig.dutyPoints).bad = true := by
    rw [testTable_bad, testTable_bad, exists_or]
  have first : (testCode defaultConfig.startZone (zoneOfCode (imageByte image 88 / 16))).bad = true ↔ 3 < imageByte image 88 / 16 :=
    (zoneOfCode_val _ _).2
  have last : (testCode defaultConfig.endZone (zoneOfCode (imageByte image 88 % 16))).bad = true ↔ 3 < imageByte image 88 % 16 :=
    (zoneOfCode_val _ _).2
  have filter : (testCode defaultConfig.rxFilter (filterOfCode (imageByte image 8))).bad = true ↔ 1 < imageByte image 8 :=
    (filterOfCode_val _).2
  rw [ImageOutOfRange, units, tables, ← first, ← last, ← filter]
  simp only [natFields, List.mem_cons, List.not_mem_nil, or_false, exists_eq_or_imp, exists_eq_left, NatField.inRange,
    ← (testNat_spec _ _ 0 _).2]
  simp only [testFields, Bool.or_eq_true, (testNat_spec _ _ _ _).2]
  exact iff_of_eq (by ac_rfl)

/-! ## The repairs (R5) -/

/-- Of the fields that stand alone the repairs change Dmax and the two zones. -/
theorem repair_single_fields (c : ConfigSet) :
    repair c =
      { c with
        dmax := if c.dmax < c.dmin then c.dmin else c.dmax
        flowPoints := (repair c).flowPoints, dutyPoints := (repair c).dutyPoints
        analog := (repair c).analog, units := (repair c).units
        startZone := if c.endZone.val < c.startZone.val then 0 else c.startZone
        endZone := if c.endZone.val < c.startZone.val then 3 else c.endZone } := by
  have flow := congrArg ConfigSet.flowPoints (repair_eq c)
  have duty := congrArg ConfigSet.dutyPoints (repair_eq c)
  rw [flow, duty]
  exact repair_eq c

/-- A repair arms by ALWAYS in place of the unit itself or, for a PEER_DRIP unit, of the peer drip. -/
theorem repairUnit_eq (u : Fin 8) (c : UnitConfig) :
    repairUnit u c =
      { c with
        latch := if c.action = .isolate then .latched else c.latch
        arming :=
          if c.arming = .afterUnit u ∨ (c.source = .peerDrip ∧ c.arming = .afterPeerDrip) then .always else c.arming } := by
  simp only [repairUnit, ite_or]

theorem repairUnit_eq_self_iff (u : Fin 8) (c : UnitConfig) :
    repairUnit u c = c ↔
      ¬((c.action = .isolate ∧ c.latch = .selfClear) ∨ c.arming = .afterUnit u ∨
        (c.source = .peerDrip ∧ c.arming = .afterPeerDrip)) := by
  have latch : (if c.action = .isolate then Latch.latched else c.latch) = c.latch ↔ ¬(c.action = .isolate ∧ c.latch = .selfClear) := by
    cases c.latch <;> simp
  have arming (p : Prop) [Decidable p] (named : p → c.arming ≠ .always) :
      (if p then Arming.always else c.arming) = c.arming ↔ ¬p := by
    by_cases hp : p
    · simpa [hp] using (named hp).symm
    · simp [hp]
  have whole : repairUnit u c = c ↔
      (if c.action = .isolate then Latch.latched else c.latch) = c.latch ∧
        (if c.arming = .afterUnit u ∨ (c.source = .peerDrip ∧ c.arming = .afterPeerDrip) then Arming.always else c.arming) =
          c.arming := by
    rw [repairUnit_eq]
    cases c
    simp only [UnitConfig.mk.injEq, true_and, and_true]
    exact and_comm
  rw [whole, latch, arming _ (by rintro (named | ⟨-, named⟩) <;> simp [named])]
  simp only [not_or]

theorem repairScale_eq_self_iff (a : AnalogScale) : repairScale a = a ↔ ¬a.high ≤ a.low := by
  unfold repairScale
  split
  case isTrue low =>
    refine iff_of_false (fun same => ?_) (not_not.2 low)
    rw [← same] at low
    exact absurd low (by decide)
  case isFalse fits => exact iff_of_true rfl fits

/-- A set stays as it is under the repairs exactly where it keeps every relation of R5. -/
theorem repair_eq_self_iff (c : ConfigSet) :
    repair c = c ↔
      ¬(c.dmax < c.dmin ∨ ¬tablesInOrder c = true ∨ (∃ k : Fin 4, c.analog[k].high ≤ c.analog[k].low) ∨
        c.endZone.val < c.startZone.val ∨ ∃ u : Fin 8,
          (c.units[u].action = .isolate ∧ c.units[u].latch = .selfClear) ∨ c.units[u].arming = .afterUnit u ∨
            (c.units[u].source = .peerDrip ∧ c.units[u].arming = .afterPeerDrip)) := by
  simp only [not_or, not_exists, not_not]
  constructor
  · intro same
    have eq := repair_eq c
    refine ⟨fun below => ?_, ?_, fun k => ?_, fun above => ?_, fun u => ?_⟩
    · have dmax := congrArg ConfigSet.dmax eq
      rw [same] at dmax
      simp only [if_pos below] at dmax
      omega
    · by_contra disorder
      have flow := congrArg ConfigSet.flowPoints eq
      have duty := congrArg ConfigSet.dutyPoints eq
      rw [same] at flow duty
      simp only [if_neg disorder] at flow duty
      exact disorder (by rw [tablesInOrder, flow, duty]; decide)
    · rw [← repairScale_eq_self_iff, ← repair_analog, same]
    · have start := congrArg ConfigSet.startZone eq
      rw [same] at start
      simp only [if_pos above] at start
      have last := congrArg ConfigSet.endZone eq
      rw [same] at last
      simp only [if_pos above] at last
      rw [start, last] at above
      exact absurd above (by decide)
    · have unit := (repair_units c u).symm
      rw [same, repairUnit_eq_self_iff] at unit
      simpa only [not_or] using unit
  · rintro ⟨dmax, order, scales, zones, units⟩
    have analog : (repair c).analog = c.analog := by
      refine Vector.ext fun k bound => ?_
      exact (repair_analog c ⟨k, bound⟩).trans ((repairScale_eq_self_iff _).2 (scales ⟨k, bound⟩))
    have unitsSame : (repair c).units = c.units := by
      refine Vector.ext fun u bound => ?_
      exact (repair_units c ⟨u, bound⟩).trans ((repairUnit_eq_self_iff _ _).2 (by simpa only [not_or] using units ⟨u, bound⟩))
    rw [repair_eq, analog, unitsSame, if_neg dmax, if_pos order, if_pos order, if_neg zones, if_neg zones]

/-! ## The ranges (R4, R5) -/

theorem configInRange_default : ConfigInRange defaultConfig := by
  unfold ConfigInRange UnitInRange
  decide

theorem unitInRange_repaired (image : List Byte) (u : Fin 8) : UnitInRange u (repairUnit u (readUnit image u).val) := by
  have dflt : (-32768 ≤ (defaultUnit u).low ∧ (defaultUnit u).low ≤ 65535) ∧ (-32768 ≤ (defaultUnit u).high ∧ (defaultUnit u).high ≤ 65535) ∧
      (1 ≤ (defaultUnit u).countN ∧ (defaultUnit u).countN ≤ 255) ∧ (0 ≤ (defaultUnit u).window ∧ (defaultUnit u).window ≤ 60000) ∧
      (1 ≤ (defaultUnit u).clearCount ∧ (defaultUnit u).clearCount ≤ 255) := by
    revert u
    decide
  obtain ⟨low, high, countN, window, clearCount⟩ := dflt
  rw [repairUnit_eq]
  refine ⟨testInt_inRange _ low, testInt_inRange _ high, testNat_inRange _ countN, (testNat_inRange _ window).2,
    testNat_inRange _ clearCount, fun isolate => if_pos isolate, ?_, ?_⟩
  · dsimp only
    split
    · nofun
    · tauto
  · dsimp only
    split
    · rintro ⟨-, ⟨⟩⟩
    · tauto

theorem readScale_inRange (image : List Byte) (k : Fin 4) :
    -32768 ≤ (readScale image k).low ∧ (readScale image k).low ≤ 32767 ∧
      -32768 ≤ (readScale image k).high ∧ (readScale image k).high ≤ 32767 := by
  have bound (i : Nat) : -32768 ≤ imageS16 image i ∧ imageS16 image i ≤ 32767 := by
    have := imageByte_lt image i
    have := imageByte_lt image (i + 1)
    rw [imageS16_eq, signed16, bytes2]
    omega
  exact ⟨(bound _).1, (bound _).2, (bound _).1, (bound _).2⟩

theorem scaleInRange_repaired (image : List Byte) (k : Fin 4) :
    -32768 ≤ (repairScale (readScale image k)).low ∧ (repairScale (readScale image k)).low < (repairScale (readScale image k)).high ∧
      (repairScale (readScale image k)).high ≤ 32767 := by
  obtain ⟨low, -, -, high⟩ := readScale_inRange image k
  unfold repairScale
  split
  · decide
  case isFalse fits => exact ⟨low, not_le.1 fits, high⟩

theorem defaultTables_inRange :
    ((∀ k : Fin 8, defaultFlowPoints[k.val] < defaultFlowPoints[k.val + 1]) ∧
        ∀ k : Fin 8, defaultDutyPoints[k.val] ≤ defaultDutyPoints[k.val + 1]) ∧
      defaultFlowPoints[8] ≤ 2000 ∧ defaultDutyPoints[8] ≤ 1023 := by
  decide

/-- Whatever a checked image says, the set it leaves is in range. -/
theorem configInRange_repaired (image : List Byte) : ConfigInRange (repair (testFields image).val) := by
  have analog (k : Fin 4) : (repair (testFields image).val).analog[k] = repairScale (readScale image k) := by
    rw [repair_analog]
    fin_cases k <;> rfl
  have units (u : Fin 8) : (repair (testFields image).val).units[u] = repairUnit u (readUnit image u).val := by
    rw [repair_units, testFields_units]
  have dmin : (testFields image).val.dmin ≤ 2000 := (testNat_inRange _ (by decide)).2
  have dmax : (testFields image).val.dmax ≤ 2000 := (testNat_inRange _ (by decide)).2
  have tables :
      ((∀ k : Fin 8, (repair (testFields image).val).flowPoints[k.val] < (repair (testFields image).val).flowPoints[k.val + 1]) ∧
          ∀ k : Fin 8, (repair (testFields image).val).dutyPoints[k.val] ≤ (repair (testFields image).val).dutyPoints[k.val + 1]) ∧
        (repair (testFields image).val).flowPoints[8] ≤ 2000 ∧ (repair (testFields image).val).dutyPoints[8] ≤ 1023 := by
    rw [repair_eq]
    dsimp only
    by_cases order : tablesInOrder (testFields image).val = true
    · simp only [if_pos order]
      obtain ⟨flow, duty⟩ := testFields_tables image 8
      refine ⟨(tablesInOrder_iff _).1 order, ?_, ?_⟩
      · refine flow.trans_le ?_
        split
        · assumption
        · decide
      · refine duty.trans_le ?_
        split
        · assumption
        · decide
    · simp only [if_neg order]
      exact defaultTables_inRange
  obtain ⟨⟨flowRises, dutyRises⟩, flowLast, dutyLast⟩ := tables
  have zones : (repair (testFields image).val).startZone.val ≤ (repair (testFields image).val).endZone.val := by
    rw [repair_eq]
    dsimp only
    split
    · decide
    · omega
  have demand : (repair (testFields image).val).dmin ≤ (repair (testFields image).val).dmax ∧ (repair (testFields image).val).dmax ≤ 2000 := by
    rw [repair_eq]
    dsimp only
    split <;> omega
  refine ⟨?_, ?_, ?_, ?_, ?_, ?_, ?_, demand.1, demand.2, ?_, flowRises, flowLast, dutyRises, dutyLast, ?_, ?_, ?_, ?_, ?_, ?_, ?_, ?_,
    fun k => (analog k).symm ▸ scaleInRange_repaired image k, ?_, ?_, zones, ?_, ?_, fun u => (units u).symm ▸ unitInRange_repaired image u⟩
  all_goals rw [repair_eq]
  all_goals first | exact testNat_inRange _ (by decide) | exact (testNat_inRange _ (by decide)).2

theorem configInRange_loadImage (image : List Byte) : ConfigInRange (loadImage image).cfg := by
  by_cases good : imageGood image = true
  · rw [loadImage_of_imageGood good]
    exact configInRange_repaired image
  · rw [loadImage_of_not_imageGood good]
    exact configInRange_default

/-! ## The set in force (R2) -/

theorem configSafe_of_cfg {s t : State} (cfg : t.sup.cfg = s.sup.cfg) (safe : ConfigSafe s) : ConfigSafe t := by
  unfold ConfigSafe
  rwa [cfg]

theorem configSafe_blindCore : KeptBlindCore ConfigSafe where
  line _ _ _ := id
  ros _ _ _ := id
  dsu _ _ := id
  msu _ _ := id
  svc _ _ := id
  vlv _ _ := id
  shr _ _ := id
  station s _ keeps := configSafe_of_cfg (keeps s.sup).1.2.1
  mode _ _ _ := id
  record _ _ := id
  freeze _ _ _ _ := id

theorem configSafe_blind : KeptBlind ConfigSafe := configSafe_blindCore.toBlind (fun _ _ => id) fun _ _ => id

theorem configSafe_after {s : State} (c : Instr) (safe : ConfigSafe s) : ConfigSafe (after c s) := by
  cases c with
  | reset => exact configInRange_default
  | resetRelease addr seg =>
    simp only [after, resetRelease]
    split <;> exact safe
  | loadEnd image => exact configSafe_blind.loadEnd image safe fun _ => configInRange_loadImage image
  | freeze => exact whenReleased_keeps safe safe
  | resume =>
    simp only [after, resumeCommand]
    refine whenReleased_keeps safe ?_
    split <;> exact safe
  | _ => exact configSafe_blind.after (fun s m => configSafe_of_cfg (by rw [processedSet_sup])) rfl safe

/-- When a checked image, tested as t, sets CONFIG_ADJUSTED. -/
theorem adjusted_iff (image : List Byte) (t : ConfigSet) :
    let tablesOk := (∀ k : Fin 8, t.flowPoints[k.val] < t.flowPoints[k.val + 1]) ∧
      ∀ k : Fin 8, t.dutyPoints[k.val] ≤ t.dutyPoints[k.val + 1]
    ((testFields image).bad || decide (repair t ≠ t)) = true ↔
      ImageOutOfRange image ∨ t.dmax < t.dmin ∨ ¬tablesOk ∨ (∃ k : Fin 4, t.analog[k].high ≤ t.analog[k].low) ∨
        t.endZone.val < t.startZone.val ∨
        ∃ u : Fin 8,
          (t.units[u].action = .isolate ∧ t.units[u].latch = .selfClear) ∨ t.units[u].arming = .afterUnit u ∨
            (t.units[u].source = .peerDrip ∧ t.units[u].arming = .afterPeerDrip) := by
  intro tablesOk
  rw [Bool.or_eq_true, testFields_bad, decide_eq_true_iff, Ne, repair_eq_self_iff, not_not, tablesInOrder_iff]

/-- Settles O6: the field tests, the repairs and the flag of a checked image, the ranges they leave, and the commands that put a set in
force, which are RESET and LOAD_END alone. -/
theorem loadedSetIsInRange : Obligations.LoadedSetIsInRange := by
  unfold Obligations.LoadedSetIsInRange
  refine ⟨fun image passed => ?checked, fun image => ⟨configInRange_loadImage image, ?flags⟩, fun s t safe => ?kept⟩
  case checked =>
    have good : imageGood image = true := by
      by_contra bad
      rw [loadImage_of_not_imageGood bad] at passed
      cases passed
    rw [loadImage_of_imageGood good]
    refine ⟨(testFields image).val, testFields_fields image, repair_single_fields _, fun order => ?_, fun disorder => ?_, repair_analog _,
      fun u => (repair_units _ u).trans (repairUnit_eq u _), adjusted_iff image _⟩
    · rw [repair_eq]
      exact ⟨if_pos ((tablesInOrder_iff _).2 order), if_pos ((tablesInOrder_iff _).2 order)⟩
    · have unordered := mt (tablesInOrder_iff _).1 disorder
      rw [repair_eq]
      exact ⟨if_neg unordered, if_neg unordered⟩
  case flags =>
    by_cases good : imageGood image = true
    · rw [loadImage_of_imageGood good, Bool.false_and]
    · rw [loadImage_of_not_imageGood good, Bool.and_false]
  case kept =>
    exact step_leads (fun _ _ => id) (fun _ _ => id) (fun _ => id) (fun c _ => configSafe_after c) (fun _ => id) safe

end Sys2Proof.Machine
end

section
/-! PROOF. The image of a configuration set (R176): its bytes read back as the values written, a set in range passes every test unchanged,
and O7 from these. -/

namespace Sys2Proof.Machine

open Safety

/-! ## Multi-byte fields (R174) -/

theorem be16_value {n : Nat} (fits : n < 65536) :
    256 * (BitVec.ofNat 8 (n / 256)).toNat + (BitVec.ofNat 8 n).toNat = n := by
  simp only [BitVec.toNat_ofNat]
  omega

theorem be16Int_value {i : Int} (least : -32768 ≤ i) (greatest : i ≤ 32767) :
    ((BitVec.ofInt 16 i).toNat : Int) = if i < 0 then i + 65536 else i := by
  rw [BitVec.toNat_ofInt]
  split <;> omega

theorem be24Int_value {i : Int} (least : -8388608 ≤ i) (greatest : i ≤ 8388607) :
    ((BitVec.ofInt 24 i).toNat : Int) = if i < 0 then i + 16777216 else i := by
  rw [BitVec.toNat_ofInt]
  split <;> omega

theorem be24_value {n : Nat} (fits : n < 16777216) :
    65536 * (BitVec.ofNat 8 (n / 65536)).toNat + (256 * (BitVec.ofNat 8 (n / 256)).toNat + (BitVec.ofNat 8 n).toNat) = n := by
  simp only [BitVec.toNat_ofNat]
  omega

theorem byteOf_value {n : Nat} (fits : n < 256) : (byteOf n).toNat = n := by
  simp [byteOf, Nat.mod_eq_of_lt fits]

theorem signed16_be16Int {i : Int} (least : -32768 ≤ i) (greatest : i ≤ 32767) : signed16 (BitVec.ofInt 16 i).toNat = i := by
  have value := be16Int_value least greatest
  unfold signed16
  split at value <;> split <;> omega

theorem signed24_be24Int {i : Int} (least : -32768 ≤ i) (greatest : i ≤ 65535) : signed24 (BitVec.ofInt 24 i).toNat = i := by
  have value := be24Int_value (i := i) (by omega) (by omega)
  unfold signed24
  split at value <;> split <;> omega

/-! ## Fields in range pass their tests -/

theorem testNat_of_mem {lo hi v : Nat} (d : Nat) (least : lo ≤ v) (greatest : v ≤ hi) : testNat lo hi d v = ⟨v, false⟩ :=
  if_pos ⟨least, greatest⟩

theorem testInt_of_mem {lo hi v : Int} (d : Int) (least : lo ≤ v) (greatest : v ≤ hi) : testInt lo hi d v = ⟨v, false⟩ :=
  if_pos ⟨least, greatest⟩

theorem testCode_of_code {α : Type} {code : α → Byte} {ofCode : Nat → Option α}
    (reads : ∀ n v, ofCode n = some v ↔ n = (code v).toNat) (d v : α) : testCode d (ofCode (code v).toNat) = ⟨v, false⟩ := by
  rw [(reads _ v).2 rfl]
  rfl

theorem testTable_of_mem {image : List Byte} {i hi : Nat} {t : Vector Nat 9} (d : Vector Nat 9)
    (held : ∀ k : Fin 9, imageU16 image (i + 2 * k.val) = t[k]) (inRange : ∀ k : Fin 9, t[k] ≤ hi) :
    testTable image i hi d = ⟨t, false⟩ := by
  have each (k : Fin 9) : testNat 0 hi d[k] (imageU16 image (i + 2 * k.val)) = ⟨t[k], false⟩ := by
    rw [held]
    exact testNat_of_mem _ (Nat.zero_le _) (inRange k)
  have whole : t = #v[t[(0 : Fin 9)], t[(1 : Fin 9)], t[(2 : Fin 9)], t[(3 : Fin 9)], t[(4 : Fin 9)], t[(5 : Fin 9)], t[(6 : Fin 9)],
      t[(7 : Fin 9)], t[(8 : Fin 9)]] := by
    refine Vector.ext fun k bound => ?_
    interval_cases k <;> rfl
  simp only [testTable, each, Bool.or_false]
  rw [← whole]

/-- A watch unit in range is read back from its sixteen bytes. -/
theorem readUnit_of_unitImage {image : List Byte} {u : Fin 8} {c : UnitConfig} (inRange : UnitInRange u c)
    (bytes : ∀ k, k < 16 → image.getD (92 + 16 * u.val + k) 0xFF = (unitImage c).getD k 0xFF) : readUnit image u = ⟨c, false⟩ := by
  obtain ⟨⟨lowLeast, lowGreatest⟩, ⟨highLeast, highGreatest⟩, ⟨countLeast, countGreatest⟩, window, ⟨clearLeast, clearGreatest⟩, -⟩ :=
    inRange
  have byte (k : Nat) (inside : k < 16) : imageByte image (92 + 16 * u.val + k) = ((unitImage c).getD k 0xFF).toNat :=
    congrArg BitVec.toNat (bytes k inside)
  have low : imageS24 image (92 + 16 * u.val + 2) = c.low := by
    rw [imageS24_eq, bytes3, bytes2, Nat.add_assoc _ 2 1, Nat.add_assoc _ 3 1, byte 2 (by decide), byte 3 (by decide), byte 4 (by decide)]
    exact (congrArg signed24 (be24_value (BitVec.isLt _))).trans (signed24_be24Int lowLeast lowGreatest)
  have high : imageS24 image (92 + 16 * u.val + 5) = c.high := by
    rw [imageS24_eq, bytes3, bytes2, Nat.add_assoc _ 5 1, Nat.add_assoc _ 6 1, byte 5 (by decide), byte 6 (by decide), byte 7 (by decide)]
    exact (congrArg signed24 (be24_value (BitVec.isLt _))).trans (signed24_be24Int highLeast highGreatest)
  have countN : imageByte image (92 + 16 * u.val + 8) = c.countN :=
    (byte 8 (by decide)).trans (byteOf_value (by omega))
  have windowRead : imageU16 image (92 + 16 * u.val + 11) = c.window := by
    rw [imageU16, Nat.add_assoc _ 11 1, byte 11 (by decide), byte 12 (by decide)]
    exact be16_value (by omega)
  have clearCount : imageByte image (92 + 16 * u.val + 15) = c.clearCount :=
    (byte 15 (by decide)).trans (byteOf_value (by omega))
  have source : imageByte image (92 + 16 * u.val) = (sourceCode c.source).toNat := byte 0 (by decide)
  have comparison : imageByte image (92 + 16 * u.val + 1) = (comparisonCode c.comparison).toNat := byte 1 (by decide)
  have countMode : imageByte image (92 + 16 * u.val + 9) = (countModeCode c.countMode).toNat := byte 9 (by decide)
  have arming : imageByte image (92 + 16 * u.val + 10) = (armingCode c.arming).toNat := byte 10 (by decide)
  have action : imageByte image (92 + 16 * u.val + 13) = (actionCode c.action).toNat := byte 13 (by decide)
  have latch : imageByte image (92 + 16 * u.val + 14) = (latchCode c.latch).toNat := byte 14 (by decide)
  simp only [readUnit, low, high, countN, windowRead, clearCount, source, comparison, countMode, arming, action, latch,
    testCode_of_code sourceOfCode_iff, testCode_of_code comparisonOfCode_iff, testCode_of_code countModeOfCode_iff,
    testCode_of_code armingOfCode_iff, testCode_of_code actionOfCode_iff, testCode_of_code latchOfCode_iff,
    testInt_of_mem _ lowLeast lowGreatest, testInt_of_mem _ highLeast highGreatest, testNat_of_mem _ countLeast countGreatest,
    testNat_of_mem _ (Nat.zero_le _) window, testNat_of_mem _ clearLeast clearGreatest, Bool.or_false]

/-! ## The image of a set -/

/-- Blocks of one length one after another: byte k of block u. -/
theorem getD_flatten {n : Nat} {blocks : List (List Byte)} (lengths : ∀ b ∈ blocks, b.length = n) (u : Nat) {k : Nat} (inside : k < n)
    (d : Byte) : blocks.flatten.getD (n * u + k) d = (blocks.getD u []).getD k d := by
  induction blocks generalizing u with
  | nil => simp
  | cons b blocks ih =>
    obtain ⟨own, others⟩ := List.forall_mem_cons.1 lengths
    rw [List.flatten_cons]
    cases u with
    | zero =>
      rw [Nat.mul_zero, Nat.zero_add, List.getD_append _ _ _ _ (inside.trans_eq own.symm), List.getD_cons_zero]
    | succ u =>
      have below : b.length ≤ n * (u + 1) + k := by rw [own, Nat.mul_succ]; omega
      have index : n * (u + 1) + k - b.length = n * u + k := by rw [own, Nat.mul_succ]; omega
      rw [List.getD_append_right _ _ _ _ below, index, ih others, List.getD_cons_succ]

/-- The fields of bytes 0..91, one after another. -/
def headFields (c : ConfigSet) : List (List Byte) :=
  [[0x6B, 222, byteOf c.pAnnUnits], be16 c.capacity, [byteOf c.quorum], be16 c.gcont, [bitAt 0 c.rxFilter], be16 c.tset, be16 c.dbase,
    [byteOf c.kd], be16 c.dmin, be16 c.dmax, be16 c.slew, tableImage c.flowPoints, tableImage c.dutyPoints,
    [byteOf c.trimStep, byteOf c.tmax, byteOf c.deadband], be16 c.pullInTime, be16 c.holdDuty, be16 c.strokeTime, [byteOf c.leakBy],
    be16 c.kFactor, scaleImage c.analog[0], scaleImage c.analog[1], scaleImage c.analog[2], scaleImage c.analog[3], be16 c.mCycles,
    be16 c.scanPeriod, [byteOf (16 * c.startZone.val + c.endZone.val)], be16 c.openThreshold, [byteOf c.decimation]]

/-- The watch units of bytes 92..219, one after another. -/
def unitFields (c : ConfigSet) : List (List Byte) :=
  [unitImage c.units[0], unitImage c.units[1], unitImage c.units[2], unitImage c.units[3], unitImage c.units[4], unitImage c.units[5],
    unitImage c.units[6], unitImage c.units[7]]

theorem imageBody_eq (c : ConfigSet) : imageBody c = (headFields c).flatten ++ (unitFields c).flatten := by
  unfold imageBody
  simp only [headFields, unitFields, List.flatten_cons, List.flatten_nil, List.append_assoc, List.append_nil]

theorem be16_length (n : Nat) : (be16 n).length = 2 := rfl

theorem scaleImage_length (a : AnalogScale) : (scaleImage a).length = 4 := rfl

theorem tableImage_length (t : Vector Nat 9) : (tableImage t).length = 18 := rfl

theorem unitImage_length (u : UnitConfig) : (unitImage u).length = 16 := rfl

theorem headFields_length (c : ConfigSet) : (headFields c).flatten.length = 92 := by
  simp only [headFields, List.flatten_cons, List.flatten_nil, List.length_append, be16_length, scaleImage_length, tableImage_length,
    List.length_cons, List.length_nil]

theorem unitFields_length (c : ConfigSet) : (unitFields c).flatten.length = 128 := by
  simp only [unitFields, List.flatten_cons, List.flatten_nil, List.length_append, unitImage_length, List.length_nil]

theorem configImage_getD_of_lt {c : ConfigSet} {i : Nat} (inside : i < 220) :
    (configImage c).getD i 0xFF = (imageBody c).getD i 0xFF := by
  rw [configImage, List.getD_append]
  rwa [imageBody_eq, List.length_append, headFields_length, unitFields_length]

theorem configImage_head {c : ConfigSet} {i : Nat} (inside : i < 92) :
    imageByte (configImage c) i = ((headFields c).flatten.getD i 0xFF).toNat := by
  rw [imageByte, configImage_getD_of_lt (by omega), imageBody_eq, List.getD_append _ _ _ _ (inside.trans_eq (headFields_length c).symm)]

theorem configImage_unit (c : ConfigSet) (u : Fin 8) {k : Nat} (inside : k < 16) :
    (configImage c).getD (92 + 16 * u.val + k) 0xFF = (unitImage c.units[u]).getD k 0xFF := by
  have lengths : ∀ b ∈ unitFields c, b.length = 16 := by
    simp only [unitFields, List.forall_mem_cons]
    simp [unitImage_length]
  have own : (unitFields c).getD u.val [] = unitImage c.units[u] := by fin_cases u <;> rfl
  have position : 92 + 16 * u.val + k - (headFields c).flatten.length = 16 * u.val + k := by
    rw [headFields_length]
    omega
  rw [configImage_getD_of_lt (by omega), imageBody_eq, List.getD_append_right _ _ _ _ (by rw [headFields_length]; omega), position,
    getD_flatten lengths u.val inside, own]

/-! ## The tests of a written image -/

theorem imageGood_configImage (c : ConfigSet) : imageGood (configImage c) = true := by
  have length : (imageBody c).length = 220 := by rw [imageBody_eq, List.length_append, headFields_length, unitFields_length]
  have format : imageByte (configImage c) 0 = 0x6B := configImage_head (by decide)
  have size : imageByte (configImage c) 1 = 222 := configImage_head (by decide)
  have sum : imageSum (configImage c) = imageSum (imageBody c) := by
    rw [imageSum_eq_sum, imageSum_eq_sum]
    exact congrArg List.sum
      (List.map_congr_left fun i mem => congrArg BitVec.toNat (configImage_getD_of_lt (List.mem_range.1 mem)))
  have check : imageU16 (configImage c) 220 = imageSum (imageBody c) % 65536 := by
    simp only [imageU16, imageByte, configImage]
    rw [List.getD_append_right _ _ _ _ length.le, List.getD_append_right _ _ _ _ (by omega), length]
    exact be16_value (Nat.mod_lt _ (by decide))
  simp only [imageGood, format, size, check, sum, BEq.rfl, Bool.and_self]

/-- A one-byte field in range is read back. -/
theorem testNat_byte {c : ConfigSet} {i n lo hi : Nat} (d : Nat) (inside : i < 92)
    (held : (headFields c).flatten.getD i 0xFF = byteOf n) (inRange : lo ≤ n ∧ n ≤ hi) (fits : hi < 256) :
    testNat lo hi d (imageByte (configImage c) i) = ⟨n, false⟩ := by
  rw [configImage_head inside, held, byteOf_value (by omega), testNat_of_mem d inRange.1 inRange.2]

/-- The two bytes of a 16-bit field give its value. -/
theorem imageU16_configImage {c : ConfigSet} {i n : Nat} (inside : i + 1 < 92)
    (high : (headFields c).flatten.getD i 0xFF = BitVec.ofNat 8 (n / 256))
    (low : (headFields c).flatten.getD (i + 1) 0xFF = BitVec.ofNat 8 n) (fits : n < 65536) : imageU16 (configImage c) i = n := by
  rw [imageU16, configImage_head (by omega), configImage_head inside, high, low, be16_value fits]

/-- A 16-bit field in range is read back. -/
theorem testNat_word {c : ConfigSet} {i n lo hi : Nat} (d : Nat) (inside : i + 1 < 92)
    (high : (headFields c).flatten.getD i 0xFF = BitVec.ofNat 8 (n / 256))
    (low : (headFields c).flatten.getD (i + 1) 0xFF = BitVec.ofNat 8 n) (inRange : lo ≤ n ∧ n ≤ hi) (fits : hi < 65536) :
    testNat lo hi d (imageU16 (configImage c) i) = ⟨n, false⟩ := by
  rw [imageU16_configImage inside high low (by omega), testNat_of_mem d inRange.1 inRange.2]

theorem readScale_configImage {c : ConfigSet} (k : Fin 4)
    (inRange : -32768 ≤ c.analog[k].low ∧ c.analog[k].low < c.analog[k].high ∧ c.analog[k].high ≤ 32767) :
    readScale (configImage c) k = c.analog[k] := by
  obtain ⟨least, rises, greatest⟩ := inRange
  have low : imageU16 (configImage c) (68 + 4 * k.val) = (BitVec.ofInt 16 c.analog[k].low).toNat := by
    fin_cases k <;> exact imageU16_configImage (by decide) rfl rfl (BitVec.isLt _)
  have high : imageU16 (configImage c) (70 + 4 * k.val) = (BitVec.ofInt 16 c.analog[k].high).toNat := by
    fin_cases k <;> exact imageU16_configImage (by decide) rfl rfl (BitVec.isLt _)
  rw [readScale, imageS16_eq, imageS16_eq, bytes2, bytes2, ← imageU16, ← imageU16, low, high, signed16_be16Int least (by omega),
    signed16_be16Int (by omega) greatest]

theorem tables_configImage {c : ConfigSet} (inOrder : tablesInOrder c = true) (flow : c.flowPoints[8] ≤ 2000)
    (duty : c.dutyPoints[8] ≤ 1023) (d e : Vector Nat 9) :
    testTable (configImage c) 20 2000 d = ⟨c.flowPoints, false⟩ ∧ testTable (configImage c) 38 1023 e = ⟨c.dutyPoints, false⟩ := by
  have flowPoint (k : Fin 9) : c.flowPoints[k] ≤ 2000 := ((flowPoints_strictMono inOrder).monotone k.le_last).trans flow
  have dutyRises : Monotone fun k : Fin 9 => c.dutyPoints[k.val] := Fin.monotone_iff_le_succ.2 (dutyPoints_le_next inOrder)
  have dutyPoint (k : Fin 9) : c.dutyPoints[k] ≤ 1023 := (dutyRises k.le_last).trans duty
  refine ⟨testTable_of_mem _ (fun k => ?_) flowPoint, testTable_of_mem _ (fun k => ?_) dutyPoint⟩
  · have fits := flowPoint k
    fin_cases k <;> exact imageU16_configImage (by decide) rfl rfl (Nat.lt_of_le_of_lt fits (by decide))
  · have fits := dutyPoint k
    fin_cases k <;> exact imageU16_configImage (by decide) rfl rfl (Nat.lt_of_le_of_lt fits (by decide))

theorem zones_configImage (c : ConfigSet) (d e : Fin 4) :
    testCode d (zoneOfCode (imageByte (configImage c) 88 / 16)) = ⟨c.startZone, false⟩ ∧
      testCode e (zoneOfCode (imageByte (configImage c) 88 % 16)) = ⟨c.endZone, false⟩ := by
  have byte : imageByte (configImage c) 88 = 16 * c.startZone.val + c.endZone.val :=
    (configImage_head (by decide)).trans (byteOf_value (by omega))
  have code (z : Fin 4) (d : Fin 4) : testCode d (zoneOfCode z.val) = ⟨z, false⟩ := by fin_cases z <;> rfl
  have start : (16 * c.startZone.val + c.endZone.val) / 16 = c.startZone.val := by omega
  have last : (16 * c.startZone.val + c.endZone.val) % 16 = c.endZone.val := by omega
  rw [byte, start, last, code, code]
  exact ⟨rfl, rfl⟩

/-- The single fields of bytes 2..19 (R176). -/
theorem early_fields_configImage {c : ConfigSet} (inRange : ConfigInRange c) (d : ConfigSet) :
    testNat 2 20 d.pAnnUnits (imageByte (configImage c) 2) = ⟨c.pAnnUnits, false⟩ ∧
    testNat 100 64000 d.capacity (imageU16 (configImage c) 3) = ⟨c.capacity, false⟩ ∧
    testNat 0 8 d.quorum (imageByte (configImage c) 5) = ⟨c.quorum, false⟩ ∧
    testNat 0 2000 d.gcont (imageU16 (configImage c) 6) = ⟨c.gcont, false⟩ ∧
    testNat 200 700 d.tset (imageU16 (configImage c) 9) = ⟨c.tset, false⟩ ∧
    testNat 0 2000 d.dbase (imageU16 (configImage c) 11) = ⟨c.dbase, false⟩ ∧
    testNat 0 255 d.kd (imageByte (configImage c) 13) = ⟨c.kd, false⟩ ∧
    testNat 0 2000 d.dmin (imageU16 (configImage c) 14) = ⟨c.dmin, false⟩ ∧
    testNat 0 2000 d.dmax (imageU16 (configImage c) 16) = ⟨c.dmax, false⟩ ∧
    testNat 1 500 d.slew (imageU16 (configImage c) 18) = ⟨c.slew, false⟩ := by
  obtain ⟨pAnn, capacity, quorum, gcont, tset, dbase, kd, dmin, dmax, slew, -⟩ := inRange
  have atMost {n hi : Nat} (le : n ≤ hi) : 0 ≤ n ∧ n ≤ hi := ⟨Nat.zero_le n, le⟩
  exact ⟨testNat_byte _ (by decide) rfl pAnn (by decide), testNat_word _ (by decide) rfl rfl capacity (by decide),
    testNat_byte _ (by decide) rfl (atMost quorum) (by decide), testNat_word _ (by decide) rfl rfl (atMost gcont) (by decide),
    testNat_word _ (by decide) rfl rfl tset (by decide), testNat_word _ (by decide) rfl rfl (atMost dbase) (by decide),
    testNat_byte _ (by decide) rfl (atMost kd) (by decide), testNat_word _ (by decide) rfl rfl (atMost (dmin.trans dmax)) (by decide),
    testNat_word _ (by decide) rfl rfl (atMost dmax) (by decide), testNat_word _ (by decide) rfl rfl slew (by decide)⟩

/-- The single fields of bytes 56..67 (R176). -/
theorem middle_fields_configImage {c : ConfigSet} (inRange : ConfigInRange c) (d : ConfigSet) :
    testNat 1 16 d.trimStep (imageByte (configImage c) 56) = ⟨c.trimStep, false⟩ ∧
    testNat 0 255 d.tmax (imageByte (configImage c) 57) = ⟨c.tmax, false⟩ ∧
    testNat 0 200 d.deadband (imageByte (configImage c) 58) = ⟨c.deadband, false⟩ ∧
    testNat 50 500 d.pullInTime (imageU16 (configImage c) 59) = ⟨c.pullInTime, false⟩ ∧
    testNat 100 1023 d.holdDuty (imageU16 (configImage c) 61) = ⟨c.holdDuty, false⟩ ∧
    testNat 1000 20000 d.strokeTime (imageU16 (configImage c) 63) = ⟨c.strokeTime, false⟩ ∧
    testNat 0 100 d.leakBy (imageByte (configImage c) 65) = ⟨c.leakBy, false⟩ ∧
    testNat 50 5000 d.kFactor (imageU16 (configImage c) 66) = ⟨c.kFactor, false⟩ := by
  obtain ⟨-, -, -, -, -, -, -, -, -, -, -, -, -, -, trimStep, tmax, deadband, pullIn, hold, stroke, leakBy, factor, -⟩ := inRange
  have atMost {n hi : Nat} (le : n ≤ hi) : 0 ≤ n ∧ n ≤ hi := ⟨Nat.zero_le n, le⟩
  exact ⟨testNat_byte _ (by decide) rfl trimStep (by decide), testNat_byte _ (by decide) rfl (atMost tmax) (by decide),
    testNat_byte _ (by decide) rfl (atMost deadband) (by decide), testNat_word _ (by decide) rfl rfl pullIn (by decide),
    testNat_word _ (by decide) rfl rfl hold (by decide), testNat_word _ (by decide) rfl rfl stroke (by decide),
    testNat_byte _ (by decide) rfl (atMost leakBy) (by decide), testNat_word _ (by decide) rfl rfl factor (by decide)⟩

/-- The single fields of bytes 84..91 (R176). -/
theorem late_fields_configImage {c : ConfigSet} (inRange : ConfigInRange c) (d : ConfigSet) :
    testNat 256 16384 d.mCycles (imageU16 (configImage c) 84) = ⟨c.mCycles, false⟩ ∧
    testNat 250 10000 d.scanPeriod (imageU16 (configImage c) 86) = ⟨c.scanPeriod, false⟩ ∧
    testNat 0 1000 d.openThreshold (imageU16 (configImage c) 89) = ⟨c.openThreshold, false⟩ ∧
    testNat 1 50 d.decimation (imageByte (configImage c) 91) = ⟨c.decimation, false⟩ := by
  obtain ⟨-, -, -, -, -, -, -, -, -, -, -, -, -, -, -, -, -, -, -, -, -, -, -, cycles, period, -, threshold, decimation, -⟩ := inRange
  exact ⟨testNat_word _ (by decide) rfl rfl cycles (by decide), testNat_word _ (by decide) rfl rfl period (by decide),
    testNat_word _ (by decide) rfl rfl ⟨Nat.zero_le _, threshold⟩ (by decide), testNat_byte _ (by decide) rfl decimation (by decide)⟩

theorem testFields_configImage {c : ConfigSet} (inRange : ConfigInRange c) : testFields (configImage c) = ⟨c, false⟩ := by
  have early := early_fields_configImage inRange defaultConfig
  have middle := middle_fields_configImage inRange defaultConfig
  have late := late_fields_configImage inRange defaultConfig
  obtain ⟨-, -, -, -, -, -, -, -, -, -, flowRises, flow, dutyRises, duty, -, -, -, -, -, -, -, -, analog, -, -, -, -, -, unitsInRange⟩ :=
    inRange
  have tables := tables_configImage ((tablesInOrder_iff c).2 ⟨flowRises, dutyRises⟩) flow duty
    defaultConfig.flowPoints defaultConfig.dutyPoints
  have zones := zones_configImage c defaultConfig.startZone defaultConfig.endZone
  have filter : testCode defaultConfig.rxFilter (filterOfCode (imageByte (configImage c) 8)) = ⟨c.rxFilter, false⟩ := by
    rw [configImage_head (by decide), show (headFields c).flatten.getD 8 0xFF = bitAt 0 c.rxFilter from rfl]
    cases c.rxFilter <;> rfl
  have scales (k : Fin 4) : readScale (configImage c) k = c.analog[k] := readScale_configImage k (analog k)
  have units (u : Fin 8) : readUnit (configImage c) u = ⟨c.units[u], false⟩ :=
    readUnit_of_unitImage (unitsInRange u) fun k => configImage_unit c u
  have unitsWhole : #v[c.units[(0 : Fin 8)], c.units[(1 : Fin 8)], c.units[(2 : Fin 8)], c.units[(3 : Fin 8)], c.units[(4 : Fin 8)],
      c.units[(5 : Fin 8)], c.units[(6 : Fin 8)], c.units[(7 : Fin 8)]] = c.units := by
    refine Vector.ext fun k bound => ?_
    interval_cases k <;> rfl
  have scalesWhole : #v[c.analog[(0 : Fin 4)], c.analog[(1 : Fin 4)], c.analog[(2 : Fin 4)], c.analog[(3 : Fin 4)]] = c.analog := by
    refine Vector.ext fun k bound => ?_
    interval_cases k <;> rfl
  simp only [testFields, early, middle, late, filter, tables, zones, scales, units, unitsWhole, scalesWhole, Bool.or_false]

theorem repair_of_inRange {c : ConfigSet} (inRange : ConfigInRange c) : repair c = c := by
  obtain ⟨-, -, -, -, -, -, -, dmin, -, -, flowRises, -, dutyRises, -, -, -, -, -, -, -, -, -, analog, -, -, zones, -, -, units⟩ := inRange
  rw [repair_eq_self_iff]
  rintro (below | disorder | ⟨k, high⟩ | above | ⟨u, broken⟩)
  · omega
  · exact disorder ((tablesInOrder_iff c).2 ⟨flowRises, dutyRises⟩)
  · exact absurd (analog k).2.1 (not_lt.2 high)
  · omega
  · obtain ⟨-, -, -, -, -, latched, notSelf, notPeer⟩ := units u
    obtain ⟨isolate, selfClear⟩ | self | peer := broken
    · rw [latched isolate] at selfClear
      cases selfClear
    · exact notSelf self
    · exact notPeer peer

/-- Settles O7: the written image passes the check, each field in range reads back unchanged, and no relation of R5 is broken. -/
theorem configImageRoundTrip : Obligations.ConfigImageRoundTrip := by
  unfold Obligations.ConfigImageRoundTrip
  intro c inRange
  rw [loadImage_of_imageGood (imageGood_configImage c), testFields_configImage inRange, repair_of_inRange inRange]
  simp

end Sys2Proof.Machine
end

section
/-! PROOF. The straps and the configuration set (R1, R2), and the capture history (R157 to R163): O9, O48 and O59 from the updates that
write them. -/

namespace Sys2Proof.Machine

open Safety

variable {s t : State}

/-! ## Straps and configuration set -/

/-- RESET is high, the straps are as in s, and so, with no load running in s, are the load and the configuration set. -/
def HoldsSetting (s t : State) : Prop :=
  t.clk.held = false ∧ t.sup.ownAddr = s.sup.ownAddr ∧ t.sup.ownSeg = s.sup.ownSeg ∧
    (s.sup.loading = false → t.sup.loading = false ∧ t.sup.cfg = s.sup.cfg)

theorem holdsSetting_blindCore (s : State) : KeptBlindCore (HoldsSetting s) where
  line _ _ _ := id
  ros _ _ _ := id
  dsu _ _ := id
  msu _ _ := id
  svc _ _ := id
  vlv _ _ := id
  shr _ _ := id
  station t f keeps := by
    obtain ⟨⟨-, cfg, addr, seg, loading⟩, -⟩ := keeps t.sup
    simp only [HoldsSetting, State.mapSup_sup, State.mapSup_clk, cfg, addr, seg, loading]
    exact id
  mode _ _ _ := id
  record _ _ := id
  freeze _ _ _ _ := id

theorem holdsSetting_blind (s : State) : KeptBlind (HoldsSetting s) := (holdsSetting_blindCore s).toBlind (fun _ _ => id) fun _ _ => id

theorem holdsSetting_processedSet (m : MeasurementSet) (holds : HoldsSetting s t) : HoldsSetting s (processedSet m t) := by
  simpa only [HoldsSetting, processedSet_sup, processedSet_clk] using holds

/-- Settles O9: of the commands that write the straps or the configuration set, RESET is excluded, RESET_RELEASE finds RESET high already,
and LOAD_END acts on a running load only. -/
theorem strapsAndConfigurationHold : Obligations.StrapsAndConfigurationHold := by
  unfold Obligations.StrapsAndConfigurationHold
  intro c s t released notReset ran
  obtain rfl := eq_after_of_exec ran
  have start : HoldsSetting s s := ⟨released, rfl, rfl, fun loaded => ⟨loaded, rfl⟩⟩
  cases c with
  | reset => exact absurd rfl notReset
  | resetRelease addr seg =>
    rw [after, resetRelease, if_neg (by simp [released])]
    exact start
  | loadEnd image =>
    refine (holdsSetting_blind s).loadEnd image start fun loading => ⟨released, rfl, rfl, fun loaded => ?_⟩
    rw [loading] at loaded
    cases loaded
  | freeze => exact whenReleased_keeps start start
  | resume =>
    simp only [after, resumeCommand]
    refine whenReleased_keeps start ?_
    split <;> exact start
  | _ => exact (holdsSetting_blind s).after (fun _ m => holdsSetting_processedSet m) rfl start

/-! ## A frozen capture (R162) -/

/-- The capture is frozen, and as in s but for the decimation count. -/
def StaysFrozen (s t : State) : Prop :=
  t.cap.frozen = true ∧ t.cap = { s.cap with count := t.cap.count }

theorem StaysFrozen.of_cap {u : State} (same : u.cap = t.cap) (holds : StaysFrozen s t) : StaysFrozen s u := by
  unfold StaysFrozen
  rwa [same]

theorem staysFrozen_blindCore (s : State) : KeptBlindCore (StaysFrozen s) where
  line _ _ _ := id
  ros _ _ _ := id
  dsu _ _ := id
  msu _ _ := id
  svc _ _ := id
  vlv _ _ := id
  shr _ _ := id
  station _ _ _ := id
  mode _ _ _ := id
  record _ _ holds := holds.of_cap (appendRecord_frozen _ _ holds.1)
  freeze _ _ _ _ holds := holds.of_cap (by rw [requestFreeze_of_frozen holds.1])

theorem staysFrozen_blind (s : State) : KeptBlind (StaysFrozen s) := (staysFrozen_blindCore s).toBlind (fun _ _ => id) fun _ _ => id

theorem staysFrozen_processedSet (m : MeasurementSet) (holds : StaysFrozen s t) : StaysFrozen s (processedSet m t) := by
  obtain ⟨frozen, same⟩ := holds
  have counted (n : Nat) : StaysFrozen s (t.mapCap fun c => { c with count := n }) :=
    ⟨frozen, congrArg (fun c : Capture => { c with count := n }) same⟩
  simp only [processedSet]
  split
  · exact (staysFrozen_blind s).record _ _ (counted 0)
  · exact counted _

/-- Settles O48: a frozen capture takes no record and no freeze, and of the rest only the decimation count is ever written. -/
theorem frozenCaptureStays : Obligations.FrozenCaptureStays := by
  unfold Obligations.FrozenCaptureStays
  intro c s t frozen notResume notReset ran
  obtain rfl := eq_after_of_exec ran
  have start : StaysFrozen s s := ⟨frozen, rfl⟩
  suffices holds : StaysFrozen s (after c s) from holds.2
  cases c with
  | reset => exact absurd rfl notReset
  | resume => exact absurd rfl notResume
  | resetRelease addr seg =>
    simp only [after, resetRelease]
    split <;> exact start
  | loadEnd image => exact (staysFrozen_blind s).loadEnd image start fun _ => start
  | freeze => exact whenReleased_keeps start ((staysFrozen_blind s).svc _ _ (start.of_cap (congrArg State.cap (requestFreeze_of_frozen frozen))))
  | _ => exact (staysFrozen_blind s).after (fun _ m => staysFrozen_processedSet m) rfl start

/-! ## The capture's bounds and freeze fields -/

theorem captureSafe_of_cap (cap : t.cap = s.cap) (decimation : t.sup.cfg.decimation = s.sup.cfg.decimation) (safe : CaptureSafe s) :
    CaptureSafe t := by
  unfold CaptureSafe
  rwa [cap, decimation]

theorem captureSafe_handRecord (b : RecordBody) (safe : CaptureSafe s) : CaptureSafe (handRecord b s) := by
  obtain ⟨bounded, reason, time, unit, count⟩ := safe
  obtain ⟨frozen', reason', unit', time', count'⟩ := appendRecord_keeps { time := s.clk.ms, body := b } s.cap
  have bounded' := appendRecord_length { time := s.clk.ms, body := b } s.cap bounded
  unfold CaptureSafe
  rw [handRecord_cap, handRecord_sup, frozen', reason', unit', time', count']
  exact ⟨bounded', reason, time, unit, count⟩

/-- A freeze request keeps the fields of the state it leaves, a unit being named exactly for the watch engine's reasons. -/
theorem captureSafe_requestFreeze {r : FreezeReason} {u : Option (Fin 8)} (given : r ≠ .none)
    (named : u.isSome = true ↔ r = .isolate ∨ r = .freezeUnit) (safe : CaptureSafe s) : CaptureSafe (requestFreeze r u s) := by
  cases frozen : s.cap.frozen
  · obtain ⟨bounded, -, -, -, count⟩ := safe
    rw [requestFreeze_of_running frozen]
    exact ⟨bounded, iff_of_true rfl given, rfl, named, count⟩
  · rwa [requestFreeze_of_frozen frozen]

theorem captureSafe_blindCore : KeptBlindCore CaptureSafe where
  line _ _ _ := id
  ros _ _ _ := id
  dsu _ _ := id
  msu _ _ := id
  svc _ _ := id
  vlv _ _ := id
  shr _ _ := id
  station s _ keeps := captureSafe_of_cap rfl (congrArg ConfigSet.decimation (keeps s.sup).1.2.1)
  mode _ _ _ := id
  record _ b := captureSafe_handRecord b
  freeze _ r u watch := captureSafe_requestFreeze (by rintro rfl; simp at watch) (iff_of_true rfl watch)

theorem captureSafe_blind : KeptBlind CaptureSafe := captureSafe_blindCore.toBlind (fun _ _ => id) fun _ _ => id

theorem captureSafe_processedSet (m : MeasurementSet) (safe : CaptureSafe s) : CaptureSafe (processedSet m s) := by
  obtain ⟨bounded, reason, time, unit, count⟩ := safe
  have counted {n : Nat} (below : n < s.sup.cfg.decimation) : CaptureSafe (s.mapCap fun c => { c with count := n }) :=
    ⟨bounded, reason, time, unit, below⟩
  simp only [processedSet]
  split
  · exact captureSafe_handRecord _ (counted (by omega))
  · exact counted (by omega)

theorem captureSafe_reset : CaptureSafe State.reset := by
  unfold CaptureSafe
  decide

theorem captureSafe_after (c : Instr) (starting : StartingSafe s) (safe : CaptureSafe s) : CaptureSafe (after c s) := by
  cases c with
  | reset => exact captureSafe_of_cap (s := State.reset) rfl rfl captureSafe_reset
  | resetRelease addr seg =>
    simp only [after, resetRelease]
    split <;> exact safe
  | loadEnd image =>
    refine captureSafe_blind.loadEnd image safe fun loading => ?_
    obtain ⟨mode, -, -, asReset⟩ := starting
    obtain ⟨-, -, -, -, -, -, -, -, -, -, count, -⟩ := asReset (mode.2 (.inr loading))
    obtain ⟨bounded, reason, time, unit, -⟩ := safe
    obtain ⟨-, -, -, -, -, -, -, -, -, -, -, -, -, -, -, -, -, -, -, -, -, -, -, -, -, -, -, decimation, -⟩ :=
      configInRange_loadImage image
    exact ⟨bounded, reason, time, unit, count.trans_lt decimation.1⟩
  | freeze => exact whenReleased_keeps safe (captureSafe_requestFreeze (by decide) (by decide) safe)
  | resume =>
    simp only [after, resumeCommand]
    refine whenReleased_keeps safe ?_
    split
    · obtain ⟨-, -, -, -, count⟩ := safe
      exact ⟨by simp [resumeCapture, answer], by simp [resumeCapture, answer], rfl, by simp [resumeCapture, answer], count⟩
    · exact safe
  | _ => exact captureSafe_blind.after (fun _ m => captureSafe_processedSet m) rfl safe

/-- Settles O59: records, freezes and processed sets each keep the capture's bounds and fields; a new set is in force only from a load, when
the decimation count is 0. -/
theorem captureIsKept : Obligations.CaptureIsKept := by
  unfold Obligations.CaptureIsKept
  intro s t starting config safe
  exact step_leads (Q := fun s => StartingSafe s ∧ CaptureSafe s) (fun _ _ => id) (fun _ _ => id) (fun _ => And.right)
    (fun c _ q => captureSafe_after c q.1 q.2) (fun _ q => q.2) ⟨starting, safe⟩

end Sys2Proof.Machine
end

section
/-! PROOF. The share computer (R127 to R139): the figures of a control step lie in their ranges, an accepted PARK sets them to 0, and O57
from these. -/

namespace Sys2Proof.Machine

open Safety

variable {s t : State}

/-! ## The figures of a control step (R129 to R136) -/

theorem targetDemand_inRange {c : ConfigSet} (ordered : c.dmin ≤ c.dmax) (m : MeasurementSet) :
    (c.dmin : Int) ≤ targetDemand c m ∧ targetDemand c m ≤ c.dmax := by
  unfold targetDemand
  split
  · exact clampInt_bounds _ _ _ (by omega)
  · omega
  · omega

theorem slewedDemand_inRange {c : ConfigSet} (ordered : c.dmin ≤ c.dmax) (prev : Nat) (target : Int) :
    c.dmin ≤ slewedDemand c prev target ∧ slewedDemand c prev target ≤ c.dmax := by
  have bounds := clampInt_bounds (clampInt target ((prev : Int) - c.slew) ((prev : Int) + c.slew)) c.dmin c.dmax (by omega)
  unfold slewedDemand
  omega

/-- The grant never exceeds the share. -/
theorem grantOf_le (c : ConfigSet) (m : Mode) (d : DryCheck) (share : Nat) : grantOf c m d share ≤ share := by
  cases m with
  | active => exact le_rfl
  | contained => exact Nat.min_le_left _ _
  | joining =>
    simp only [grantOf]
    split
    · exact Nat.min_le_left _ _
    · exact Nat.zero_le _
  | isolated | starting | parked | conflict => exact Nat.zero_le _

theorem trimOf_inRange (c : ConfigSet) (grant : Nat) (valve : ValveState) (m : MeasurementSet) {trim : Int}
    (inRange : -(c.tmax : Int) ≤ trim ∧ trim ≤ c.tmax) :
    -(c.tmax : Int) ≤ trimOf c grant valve m trim ∧ trimOf c grant valve m trim ≤ c.tmax := by
  unfold trimOf
  split
  · omega
  · split
    · exact clampInt_bounds _ _ _ (by omega)
    · exact inRange

theorem startDemand_inRange {c : ConfigSet} (ordered : c.dmin ≤ c.dmax) : c.dmin ≤ startDemand c ∧ startDemand c ≤ c.dmax := by
  have bounds := clampInt_bounds c.dbase c.dmin c.dmax (by omega)
  unfold startDemand
  omega

/-! ## The share values in range -/

/-- The share values of a configuration set, the grant of PARKED left aside. -/
def ShareInRange (c : ConfigSet) (h : Share) : Prop :=
  c.dmin ≤ h.demand ∧ h.demand ≤ c.dmax ∧ h.grant ≤ h.demand ∧ h.grant ≤ c.capacity ∧ h.baseDuty ≤ 1023 ∧ h.duty ≤ 1023 ∧
    -(c.tmax : Int) ≤ h.trim ∧ h.trim ≤ c.tmax ∧ (h.grant = 0 → h.baseDuty = 0 ∧ h.trim = 0 ∧ h.duty = 0)

theorem shareSafe_iff : ShareSafe s ↔ ShareInRange s.sup.cfg s.shr ∧ (s.sup.mode = .parked → s.shr.grant = 0) := by
  simp only [ShareSafe, ShareInRange, and_assoc]

theorem shareInRange_stepShare (config : ConfigSafe s) (safe : ShareInRange s.sup.cfg s.shr) (m : MeasurementSet) :
    ShareInRange s.sup.cfg (stepShare m s) := by
  have ordered : s.sup.cfg.dmin ≤ s.sup.cfg.dmax := by
    obtain ⟨-, -, -, -, -, -, -, ordered, -⟩ := config
    exact ordered
  obtain ⟨inOrder, greatest⟩ := tables_of_configInRange config
  obtain ⟨-, -, -, -, -, -, least, most, -⟩ := safe
  obtain ⟨trimLeast, trimMost⟩ := trimOf_inRange s.sup.cfg (stepShare m s).grant s.vlv.valve m ⟨least, most⟩
  have demand := slewedDemand_inRange ordered s.shr.demand (targetDemand s.sup.cfg m)
  have share : (stepShare m s).grant ≤ shareOf s.sup.cfg (stepShare m s).demand (peerDemandSum s) := grantOf_le _ _ _ _
  refine ⟨demand.1, demand.2, share.trans shareOf_le_demand, share.trans shareOf_le_capacity,
    (baseDutyOf_le_last inOrder _).trans greatest, dutyOf_le _ _ _, trimLeast, trimMost, fun none => ?_⟩
  have base : (stepShare m s).baseDuty = baseDutyOf s.sup.cfg (stepShare m s).grant := rfl
  have trim : (stepShare m s).trim = trimOf s.sup.cfg (stepShare m s).grant s.vlv.valve m s.shr.trim := rfl
  have duty : (stepShare m s).duty = dutyOf (stepShare m s).grant (stepShare m s).baseDuty (stepShare m s).trim := rfl
  rw [duty, base, trim, none]
  exact ⟨rfl, rfl, rfl⟩

/-- The values with a grant of 0, as PARKED has them, whatever the demand. -/
theorem shareInRange_noGrant {c : ConfigSet} {demand : Nat} (inRange : c.dmin ≤ demand ∧ demand ≤ c.dmax) :
    ShareInRange c { demand := demand, grant := 0, baseDuty := 0, trim := 0, duty := 0 } :=
  ⟨inRange.1, inRange.2, Nat.zero_le _, Nat.zero_le _, Nat.zero_le _, Nat.zero_le _, Int.neg_nonpos_of_nonneg (Int.natCast_nonneg _),
    Int.natCast_nonneg _, fun _ => ⟨rfl, rfl, rfl⟩⟩

/-! ## What keeps it -/

/-- The share values are in range of a configuration set that is so itself. -/
def ShareKept (s : State) : Prop := ConfigSafe s ∧ ShareSafe s

theorem ShareKept.of_same (cfg : t.sup.cfg = s.sup.cfg) (shr : t.shr = s.shr) (parked : t.sup.mode = .parked → s.sup.mode = .parked)
    (holds : ShareKept s) : ShareKept t := by
  obtain ⟨config, safe⟩ := holds
  rw [shareSafe_iff] at safe
  refine ⟨configSafe_of_cfg cfg config, shareSafe_iff.2 ?_⟩
  rw [cfg, shr]
  exact ⟨safe.1, fun now => safe.2 (parked now)⟩

theorem shareKept_core : KeptCore ShareKept where
  line _ _ _ := id
  ros _ _ _ := id
  dsu _ _ := id
  msu _ _ := id
  svc _ _ := id
  station s _ keeps := by
    obtain ⟨⟨mode, cfg, -⟩, -⟩ := keeps s.sup
    exact ShareKept.of_same cfg rfl mode.symm.trans
  mode s m awake := ShareKept.of_same rfl rfl fun (now : m = .parked) => by simp [now, isEvaluating] at awake
  record _ _ := id
  freeze _ _ _ _ := id
  opens s := ShareKept.of_same (by rw [openRequest_sup]) (openRequest_shr s) (by simp)
  closes s := ShareKept.of_same (by rw [closeRequest_sup]) (closeRequest_shr s) (by simp)

theorem shareKept_kept : Kept ShareKept := shareKept_core.toKept (fun _ _ => id) fun _ _ => id

theorem shareKept_figures (m : MeasurementSet) (holds : ShareKept s) :
    ShareKept (receiveDuty (stepShare m s).duty (s.mapShr fun _ => stepShare m s)) := by
  obtain ⟨config, safe⟩ := holds
  have stepped : ShareKept (s.mapShr fun _ => stepShare m s) := by
    refine ⟨config, shareSafe_iff.2 ⟨shareInRange_stepShare config (shareSafe_iff.1 safe).1 m, fun parked => ?_⟩⟩
    exact congrArg (fun mode => grantOf s.sup.cfg mode s.sup.dryCheck _) parked
  exact stepped.of_same (by simp) (by simp) (by simp)

theorem shareKept_after (c : Instr) (starting : StartingSafe s) (holds : ShareKept s) : ShareKept (after c s) := by
  cases c with
  | reset =>
    have dflt : ShareInRange defaultConfig State.reset.shr := shareInRange_noGrant (by decide)
    exact ⟨configInRange_default, shareSafe_iff.2 ⟨dflt, fun _ => rfl⟩⟩
  | resetRelease addr seg =>
    simp only [after, resetRelease]
    split <;> exact holds
  | loadEnd image =>
    simp only [after, loadEnd]
    split
    case isTrue loading =>
      refine shareKept_kept.byModes.updateAttn (shareKept_kept.byModes.enterJoining ⟨configInRange_loadImage image, shareSafe_iff.2 ?_⟩)
      obtain ⟨mode, -, -, asReset⟩ := starting
      obtain ⟨-, -, -, -, -, -, -, shr, -⟩ := asReset (mode.2 (.inr loading))
      obtain ⟨-, -, -, -, -, -, -, ordered, -⟩ := configInRange_loadImage image
      have figures : (endStarting (installConfig (loadImage image) s)).shr =
          { demand := startDemand (loadImage image).cfg, grant := 0, baseDuty := 0, trim := 0, duty := 0 } := by
        show { s.shr with demand := startDemand (loadImage image).cfg } = _
        rw [shr]
        rfl
      rw [figures]
      exact ⟨shareInRange_noGrant (startDemand_inRange ordered), fun _ => rfl⟩
    · exact holds
  | conversionEnd code =>
    exact shareKept_kept.conversionEnd code (fun _ m => shareKept_figures m)
      (fun _ m => ShareKept.of_same (by simp) (by simp) (by simp)) holds
  | periodStart =>
    simp only [after, periodStart]
    split <;> exact holds
  | pullInExpiry =>
    simp only [after, pullInExpiry]
    split <;> exact holds
  | strokeTimerExpiry =>
    simp only [after, strokeTimerExpiry]
    split
    · refine shareKept_kept.byModes.updateAttn ?_
      split <;> exact holds.of_same (by simp) (by simp) (by simp)
    all_goals exact holds
  | freeze => exact whenReleased_keeps holds holds
  | resume =>
    simp only [after, resumeCommand]
    refine whenReleased_keeps holds ?_
    split <;> exact holds
  | park =>
    simp only [after, parkCommand]
    refine whenReleased_keeps holds ?_
    split
    · obtain ⟨config, safe⟩ := holds
      obtain ⟨⟨least, most, -⟩, -⟩ := shareSafe_iff.1 safe
      refine ⟨configSafe_blind.svc _ _ (configSafe_blind.acceptPark config), shareSafe_iff.2 ?_⟩
      simpa [answer, acceptPark] using shareInRange_noGrant ⟨least, most⟩
    · exact holds
  | _ => exact shareKept_kept.after rfl holds

/-- Settles O57: the figures of a control step are in range, a load sets the demand in the loaded range, and in PARKED the grant is 0. -/
theorem shareIsKept : Obligations.ShareIsKept := by
  unfold Obligations.ShareIsKept
  intro s t starting config safe
  exact step_leads (Q := fun s => StartingSafe s ∧ ShareKept s) (fun _ _ => id) (fun _ _ => id) (fun _ q => q.2.2)
    (fun c _ q => (shareKept_after c q.1 q.2).2) (fun _ q => q.2.2) ⟨starting, config, safe⟩

end Sys2Proof.Machine
end

section
/-! PROOF. The measurement unit (R90 to R102): which commands write it at all, what each of them leaves, and O55 from these. -/

namespace Sys2Proof.Machine

open Safety

variable {s t : State}

/-! ## The commands that leave the measurement unit alone -/

/-- The measurement unit is as in s. -/
theorem sameMsu_kept (s : State) : KeptByMoves fun t => t.msu = s.msu :=
  have modes : KeptByModes fun t => t.msu = s.msu :=
    { line := fun _ _ _ => id
      ros := fun _ _ _ => id
      svc := fun _ _ => id
      join := fun _ _ _ => id
      mode := fun _ _ _ => id
      record := fun _ _ => id
      freeze := fun _ _ _ _ => id
      opens := fun t => (openRequest_msu t).trans
      closes := fun t => (closeRequest_msu t).trans
      starts := fun _ _ => id
      triggers := fun _ _ => id }
  { toKeptByModes := modes, toKeptByWatch := modes.byWatch (fun _ _ => id) fun _ _ => id }

/-- The commands that work on the measurement unit. -/
def measures : Instr → Bool
  | .reset | .loadEnd _ | .acquisitionTimerExpiry | .conversionEnd _ | .flowRisingEdge _ | .noFlow => true
  | _ => false

theorem whenReleased_eq_of {α : Type} {g : State → α} {f : State → State} (same : g (f s) = g s) : g (whenReleased f s) = g s :=
  whenReleased_keeps (P := fun t => g t = g s) rfl same

theorem after_msu {c : Instr} (elsewhere : measures c = false) : (after c s).msu = s.msu := by
  cases c with
  | reset | loadEnd | acquisitionTimerExpiry | conversionEnd | flowRisingEdge | noFlow => cases elsewhere
  | resetRelease addr seg =>
    simp only [after, resetRelease]
    split <;> simp
  | scanTimerExpiry =>
    simp only [after, scanTimerExpiry]
    split <;> simp
  | referencePhaseEnd ticks =>
    simp only [after, referencePhaseEnd]
    split <;> simp
  | referenceFault =>
    simp only [after, referenceFault]
    repeat' split
    all_goals simp
  | sensorPhaseEnd cycles =>
    simp only [after, sensorPhaseEnd]
    repeat' split
    all_goals simp
  | counterOverflow =>
    simp only [after, counterOverflow]
    split <;> simp
  | periodStart =>
    simp only [after, periodStart]
    split <;> simp
  | pullInExpiry =>
    simp only [after, pullInExpiry]
    split <;> simp
  | strokeTimerExpiry =>
    simp only [after, strokeTimerExpiry]
    repeat' split
    all_goals simp
  | freeze =>
    simp only [after, freezeCommand]
    exact whenReleased_eq_of (by simp [answer])
  | resume =>
    simp only [after, resumeCommand]
    refine whenReleased_eq_of ?_
    split <;> simp [answer]
  | park =>
    simp only [after, parkCommand]
    refine whenReleased_eq_of ?_
    split <;> simp [answer, acceptPark]
  | _ => exact (sameMsu_kept s).after rfl rfl

/-! ## The values in range -/

/-- What MeasureSafe says, of the measurement unit itself. -/
def MeasureInRange (m : Measure) : Prop :=
  (∀ k : Fin 4, ∀ v, m.chans[k].value = some v → -32768 ≤ v ∧ v ≤ 32767) ∧
  (∀ k : Fin 4, m.chans[k].valid = true → m.chans[k].value.isSome = true ∧ m.chans[k].fault = false) ∧
  (∀ v, m.deltaP = some v → -32768 ≤ v ∧ v ≤ 32767) ∧
  (m.edge = .timing ↔ m.period.isSome = true) ∧
  m.window.length ≤ 3 ∧ (∀ p ∈ m.window, 1 ≤ p ∧ p ≤ 500000) ∧ m.flow ≤ 2000 ∧
  (match m.adc with
   | .idle => m.codes = []
   | .converting ch => m.codes.length = ch.val)

theorem measureSafe_iff : MeasureSafe s ↔ MeasureInRange s.msu := Iff.rfl

theorem measureInRange_reset : MeasureInRange State.reset.msu := by
  refine ⟨fun k v => ?_, fun k => ?_, nofun, by decide, by decide, nofun, by decide, rfl⟩
  · fin_cases k <;> nofun
  · fin_cases k <;> nofun

/-- A code's value lies between the two ends of its channel's scaling. -/
theorem scale_inRange {a : AnalogScale} (rises : a.low < a.high) {k : Nat} (code : k ≤ 4095) :
    a.low ≤ a.low + (a.high - a.low) * k / 4095 ∧ a.low + (a.high - a.low) * k / 4095 ≤ a.high := by
  have span : 0 ≤ a.high - a.low := by omega
  have least : 0 ≤ (a.high - a.low) * k / 4095 := Int.ediv_nonneg (Int.mul_nonneg span (Int.natCast_nonneg k)) (by decide)
  have most : (a.high - a.low) * k / 4095 ≤ a.high - a.low := by
    refine Int.ediv_le_of_le_mul (by decide) (Int.mul_le_mul_of_nonneg_left ?_ span)
    exact_mod_cast code
  omega

/-- A channel in range: its value in the 16-bit range and, when VALID, present with the fault mark clear. -/
def ChannelInRange (ch : Channel) : Prop :=
  (∀ v, ch.value = some v → -32768 ≤ v ∧ v ≤ 32767) ∧ (ch.valid = true → ch.value.isSome = true ∧ ch.fault = false)

theorem channelInRange_takeCode {a : AnalogScale} (scaling : -32768 ≤ a.low ∧ a.low < a.high ∧ a.high ≤ 32767) (code : BitVec 12)
    {ch : Channel} (safe : ChannelInRange ch) : ChannelInRange (takeCode a code ch) := by
  obtain ⟨least, rises, most⟩ := scaling
  unfold takeCode
  split
  · have between := scale_inRange rises (k := code.toNat) (by have := code.isLt; omega)
    refine ⟨fun v taken => ?_, fun _ => ⟨rfl, rfl⟩⟩
    obtain rfl := Option.some.inj taken
    rw [scaleCode]
    omega
  · exact ⟨safe.1, nofun⟩

theorem deltaPOf_inRange (p q : Channel) (v : Int) (present : deltaPOf p q = some v) : -32768 ≤ v ∧ v ≤ 32767 := by
  unfold deltaPOf at present
  split at present
  · obtain rfl := Option.some.inj present
    exact clampInt_bounds _ _ _ (by decide)
  · cases present

theorem applyCodes_chans (c : ConfigSet) (m : Measure) (codes : List (BitVec 12)) (k : Fin 4) :
    (applyCodes c m codes).chans[k] = takeCode c.analog[k] (codes.getD k.val 0) m.chans[k] := by
  fin_cases k <;> rfl

theorem measureInRange_applyCodes {c : ConfigSet} (config : ConfigInRange c) {m : Measure} (safe : MeasureInRange m)
    (codes : List (BitVec 12)) : MeasureInRange (applyCodes c m codes) := by
  obtain ⟨-, -, -, -, -, -, -, -, -, -, -, -, -, -, -, -, -, -, -, -, -, -, analog, -⟩ := config
  obtain ⟨values, valids, -, edge, window, periods, flow, -⟩ := safe
  have channel (k : Fin 4) : ChannelInRange (applyCodes c m codes).chans[k] := by
    rw [applyCodes_chans]
    exact channelInRange_takeCode (analog k) _ ⟨values k, valids k⟩
  exact ⟨fun k => (channel k).1, fun k => (channel k).2, deltaPOf_inRange _ _, edge, window, periods, flow, rfl⟩

theorem pushPeriod_inRange {p : Nat} {w : List Nat} (period : 1 ≤ p ∧ p ≤ 500000) (length : w.length ≤ 3)
    (periods : ∀ x ∈ w, 1 ≤ x ∧ x ≤ 500000) :
    (pushPeriod p w).length ≤ 3 ∧ ∀ x ∈ pushPeriod p w, 1 ≤ x ∧ x ≤ 500000 := by
  unfold pushPeriod
  split
  · refine ⟨by simp; omega, fun x mem => ?_⟩
    obtain mem | mem := List.mem_append.1 mem
    · exact periods x mem
    · rwa [List.mem_singleton.1 mem]
  · refine ⟨by simp; omega, fun x mem => ?_⟩
    obtain mem | mem := List.mem_append.1 mem
    · exact periods x (List.mem_of_mem_tail mem)
    · rwa [List.mem_singleton.1 mem]

theorem measureInRange_edge {m : Measure} (safe : MeasureInRange m) (edge : EdgeState) (period : Option Nat) (window : List Nat) (flow : Nat)
    (known : Bool) (agree : edge = .timing ↔ period.isSome = true) (length : window.length ≤ 3)
    (periods : ∀ x ∈ window, 1 ≤ x ∧ x ≤ 500000) (bounded : flow ≤ 2000) :
    MeasureInRange { m with edge := edge, period := period, window := window, flow := flow, known := known } := by
  obtain ⟨values, valids, deltaP, -, -, -, -, codes⟩ := safe
  exact ⟨values, valids, deltaP, agree, length, periods, bounded, codes⟩

theorem measureSafe_after (c : Instr) (config : ConfigSafe s) (safe : MeasureSafe s) : MeasureSafe (after c s) := by
  have whole : MeasureInRange s.msu := safe
  obtain ⟨values, valids, deltaP, edge, window, periods, flow, codes⟩ := safe
  cases c with
  | reset => exact measureInRange_reset
  | loadEnd image =>
    simp only [after, loadEnd]
    split
    · have msu : (updateAttn (enterJoining (endStarting (installConfig (loadImage image) s)))).msu =
          { s.msu with acqTimer := some (msec 100) } := by
        rw [updateAttn_msu, enterJoining_msu]
        rfl
      rw [measureSafe_iff, msu]
      exact whole
    · exact whole
  | acquisitionTimerExpiry =>
    simp only [after, acquisitionTimerExpiry]
    split
    · rw [measureSafe_iff, State.mapMsu_msu]
      cases adc : s.msu.adc with
      | idle => exact ⟨values, valids, deltaP, edge, window, periods, flow, rfl⟩
      | converting ch =>
        rw [adc] at codes
        exact ⟨values, valids, deltaP, edge, window, periods, flow, codes⟩
    · exact whole
  | conversionEnd code =>
    simp only [after, conversionEnd]
    split
    · exact whole
    case h_2 ch adc =>
      rw [adc] at codes
      split
      case isTrue early =>
        refine ⟨values, valids, deltaP, edge, window, periods, flow, ?_⟩
        have next : (ch + 1 : Fin 4).val = ch.val + 1 := by omega
        simpa [next] using codes
      · rw [measureSafe_iff, updateAttn_msu, deliverSet_msu, State.mapMsu_msu]
        exact measureInRange_applyCodes config whole _
  | flowRisingEdge ticks =>
    simp only [after, flowRisingEdge]
    split
    · exact whole
    · split
      · exact measureInRange_edge whole _ _ _ _ _ (by simp) window periods flow
      case h_2 timing =>
        split
        · exact whole
        case isFalse inside =>
          obtain ⟨length, bounds⟩ := pushPeriod_inRange (p := periodAtEdge s.msu ticks) (by omega) window periods
          exact measureInRange_edge whole _ _ _ _ _ (by simp [timing]) length bounds (Nat.min_le_right _ _)
  | noFlow =>
    simp only [after, noFlow]
    split
    · exact measureInRange_edge whole _ _ _ _ _ (by simp) (by simp) (by simp) (by simp)
    · exact whole
  | _ => rw [measureSafe_iff, after_msu rfl]; exact whole

theorem measureSafe_tickState (safe : MeasureSafe s) : MeasureSafe (tickState s) := by
  obtain ⟨values, valids, deltaP, edge, window, periods, flow, codes⟩ := safe
  refine ⟨values, valids, deltaP, ?_, window, periods, flow, codes⟩
  simpa [tickState, tickMeasure, tickUp] using edge

/-- Settles O55: the conversions, the flow edges and NO_FLOW each leave the values in range; no other command but RESET and LOAD_END writes the
unit. -/
theorem measurementIsKept : Obligations.MeasurementIsKept := by
  unfold Obligations.MeasurementIsKept
  intro s t config safe
  exact step_leads (Q := fun s => ConfigSafe s ∧ MeasureSafe s) (fun _ _ => id) (fun _ _ => id) (fun _ => And.right)
    (fun c _ q => measureSafe_after c q.1 q.2) (fun _ q => measureSafe_tickState q.2) ⟨config, safe⟩

end Sys2Proof.Machine
end

section
/-! PROOF. The peer roster (R56 to R68): its lists of entries under a change, an insertion and a removal, and O53 from what a frame and the
ageing do to them. -/

namespace Sys2Proof.Machine

open Safety

variable {s t : State} {es : List Entry} {e : Entry} {addr : Address}

/-! ## Lists of entries -/

/-- The address order of R56. -/
def Ascending (es : List Entry) : Prop := es.Pairwise fun a b => a.address.toNat < b.address.toNat

theorem findEntry_eq_none_iff : findEntry addr es = none ↔ ∀ x ∈ es, x.address ≠ addr := by simp [findEntry]

theorem address_of_findEntry (found : findEntry addr es = some e) : e.address = addr := by
  simpa using List.find?_some found

theorem mem_of_findEntry (found : findEntry addr es = some e) : e ∈ es := List.mem_of_find?_eq_some found

theorem map_address_changeEntry {f : Entry → Entry} (same : ∀ x, (f x).address = x.address) (es : List Entry) :
    (changeEntry addr f es).map Entry.address = es.map Entry.address := by
  simp only [changeEntry, List.map_map]
  refine List.map_congr_left fun x _ => ?_
  simp only [Function.comp]
  split
  · exact same x
  · rfl

/-- The address order is a property of the addresses in their order. -/
theorem ascending_iff : Ascending es ↔ (es.map Entry.address).Pairwise fun a b => a.toNat < b.toNat := by
  simp only [Ascending, List.pairwise_map]

/-- In address order an address has one entry at most. -/
theorem eq_of_findEntry {x : Entry} (ascending : Ascending es) (found : findEntry addr es = some e) (mem : x ∈ es)
    (same : x.address = addr) : x = e := by
  have distinct : (es.map Entry.address).Nodup :=
    (ascending_iff.1 ascending).imp fun below same => absurd (congrArg BitVec.toNat same) below.ne
  exact List.inj_on_of_nodup_map distinct mem (mem_of_findEntry found) (same.trans (address_of_findEntry found).symm)

/-- The new entry stands behind every entry up to its address and before the first entry above it. -/
theorem insertEntry_split (e : Entry) (es : List Entry) :
    ∃ before after, es = before ++ after ∧ insertEntry e es = before ++ e :: after ∧
      (∀ x ∈ before, x.address.toNat ≤ e.address.toNat) ∧ (∀ x, after.head? = some x → e.address.toNat < x.address.toNat) := by
  induction es with
  | nil => exact ⟨[], [], rfl, rfl, by simp, by simp⟩
  | cons x xs ih =>
    by_cases below : e.address.toNat < x.address.toNat
    · exact ⟨[], x :: xs, rfl, by simp [insertEntry, below], by simp, by simpa using below⟩
    · obtain ⟨before, after, split, inserted, upTo, above⟩ := ih
      refine ⟨x :: before, after, by simp [split], by simp [insertEntry, below, inserted], ?_, above⟩
      rintro y (⟨⟩ | ⟨_, mem⟩)
      · omega
      · exact upTo y mem

theorem mem_insertEntry {x : Entry} : x ∈ insertEntry e es ↔ x = e ∨ x ∈ es := by
  obtain ⟨before, after, rfl, inserted, -⟩ := insertEntry_split e es
  rw [inserted]
  simp only [List.mem_append, List.mem_cons]
  tauto

theorem length_insertEntry : (insertEntry e es).length = es.length + 1 := by
  obtain ⟨before, after, rfl, inserted, -⟩ := insertEntry_split e es
  rw [inserted]
  simp only [List.length_append, List.length_cons]
  omega

theorem ascending_insertEntry (absent : ∀ x ∈ es, x.address ≠ e.address) (ascending : Ascending es) : Ascending (insertEntry e es) := by
  obtain ⟨before, after, rfl, inserted, upTo, above⟩ := insertEntry_split e es
  rw [inserted]
  obtain ⟨before_asc, after_asc, across⟩ := List.pairwise_append.1 ascending
  have below : ∀ x ∈ before, x.address.toNat < e.address.toNat := fun x mem =>
    lt_of_le_of_ne (upTo x mem) fun same => absent x (List.mem_append_left _ mem) (BitVec.eq_of_toNat_eq same)
  have beyond : ∀ x ∈ after, e.address.toNat < x.address.toNat := by
    cases after with
    | nil => simp
    | cons y ys =>
      have first := above y rfl
      rintro x (⟨⟩ | ⟨_, mem⟩)
      · exact first
      · exact first.trans ((List.pairwise_cons.1 after_asc).1 x mem)
  refine List.pairwise_append.2 ⟨before_asc, List.pairwise_cons.2 ⟨beyond, after_asc⟩, ?_⟩
  rintro x mem y (⟨⟩ | ⟨_, mem'⟩)
  · exact below x mem
  · exact across x mem y mem'

/-! ## Entries with their ranges -/

/-- The demand, the flow and the announce period of a STATUS as R58 leaves them. -/
def FrameInRange : PeerFrame → Prop
  | .status _ _ _ demand flow _ period => demand ≤ 2000 ∧ flow ≤ 2000 ∧ 100 ≤ period ∧ period ≤ 1000 ∧ period % 50 = 0
  | .drip _ _ _ | .clear | .leave | .unknown => True

theorem frameInRange_readPeerFrame (kind : BitVec 4) (p : List Byte) : FrameInRange (readPeerFrame kind p) := by
  simp only [readPeerFrame]
  split
  · simp only [FrameInRange, heldFlow, heldPeriod]
    omega
  · repeat' split
    all_goals trivial

theorem entryInRange_updatedEntry {f : PeerFrame} (fits : FrameInRange f) (safe : EntryInRange s e) :
    EntryInRange s (updatedEntry f e) := by
  cases f with
  | status =>
    obtain ⟨demand, flow, period⟩ := fits
    exact ⟨safe.1, demand, flow, period⟩
  | drip | clear | leave | unknown => exact safe

theorem entryInRange_admittedEntry {f : PeerFrame} {own : Nat} (fits : FrameInRange f) (other : some addr ≠ s.sup.ownAddr)
    (period : 100 ≤ own ∧ own ≤ 1000 ∧ own % 50 = 0) (admitted : admittedEntry own addr f = some e) : EntryInRange s e := by
  cases f with
  | status =>
    obtain ⟨demand, flow, period⟩ := fits
    obtain rfl := Option.some.inj admitted
    exact ⟨other, demand, flow, period⟩
  | drip =>
    obtain rfl := Option.some.inj admitted
    exact ⟨other, Nat.zero_le _, Nat.zero_le _, period⟩
  | clear | leave | unknown => cases admitted

@[simp] theorem updatedEntry_address (f : PeerFrame) (e : Entry) : (updatedEntry f e).address = e.address := by cases f <;> rfl

theorem admittedEntry_address {f : PeerFrame} {own : Nat} (admitted : admittedEntry own addr f = some e) : e.address = addr := by
  cases f with
  | status | drip => exact (Option.some.inj admitted) ▸ rfl
  | clear | leave | unknown => cases admitted

/-! ## The roster with its bounds -/

/-- RosterSafe of a roster alone, the state giving the own address. -/
theorem rosterSafe_of_ros (ros : t.ros = s.ros) (addr : t.sup.ownAddr = s.sup.ownAddr) (safe : RosterSafe s) : RosterSafe t := by
  simpa only [RosterSafe, EntryInRange, ros, addr] using safe

/-- A change of one entry that keeps its address and its ranges. -/
theorem rosterSafe_changeEntry {f : Entry → Entry} (same : ∀ x, (f x).address = x.address)
    (ranges : ∀ x, EntryInRange s x → EntryInRange s (f x)) (safe : RosterSafe s) :
    RosterSafe (s.mapRos fun r => { r with entries := changeEntry addr f r.entries }) := by
  obtain ⟨bounded, ascending, entries, full⟩ := safe
  have length : (changeEntry addr f s.ros.entries).length = s.ros.entries.length := by simp [changeEntry]
  refine ⟨length.trans_le bounded, ascending_iff.2 ?_, ?_, fun overflown => length.trans (full overflown)⟩
  · show ((changeEntry addr f s.ros.entries).map Entry.address).Pairwise _
    rw [map_address_changeEntry same]
    exact ascending_iff.1 ascending
  · intro x mem
    obtain ⟨y, held, rfl⟩ := List.mem_map.1 mem
    split
    · exact ranges y (entries y held)
    · exact entries y held

theorem rosterSafe_removeEntry (addr : Address) (safe : RosterSafe s) : RosterSafe (s.mapRos (removeEntry addr)) := by
  obtain ⟨bounded, ascending, entries, -⟩ := safe
  exact ⟨(List.length_filter_le _ _).trans bounded, ascending.filter _, fun x mem => entries x (List.mem_filter.1 mem).1, nofun⟩

theorem rosterSafe_insertEntry (inRange : EntryInRange s e) (absent : ∀ x ∈ s.ros.entries, x.address ≠ e.address)
    (room : s.ros.entries.length < rosterCapacity) (safe : RosterSafe s) :
    RosterSafe (s.mapRos fun r => { r with entries := insertEntry e r.entries }) := by
  obtain ⟨-, ascending, entries, full⟩ := safe
  have capacity : s.ros.entries.length < 24 := room
  refine ⟨length_insertEntry.trans_le capacity, ascending_insertEntry absent ascending, fun x mem => ?_, fun overflown => ?_⟩
  · obtain rfl | held := mem_insertEntry.1 mem
    · exact inRange
    · exact entries x held
  · exact absurd (full overflown) capacity.ne

theorem rosterSafe_rosterTakes {f : PeerFrame} {own : Nat} (fits : FrameInRange f) (other : some addr ≠ s.sup.ownAddr)
    (period : 100 ≤ own ∧ own ≤ 1000 ∧ own % 50 = 0) (safe : RosterSafe s) :
    RosterSafe (s.mapRos fun _ => (rosterTakes own addr f s.ros).1) := by
  unfold rosterTakes
  split
  · split
    · exact rosterSafe_removeEntry addr safe
    · exact rosterSafe_changeEntry (updatedEntry_address f) (fun _ => entryInRange_updatedEntry fits) safe
  case h_2 unknown =>
    split
    case h_1 admitted =>
      have absent := findEntry_eq_none_iff.1 unknown
      rw [← admittedEntry_address admitted] at absent
      split
      case isTrue room => exact rosterSafe_insertEntry (entryInRange_admittedEntry fits other period admitted) absent room safe
      case isFalse full =>
        obtain ⟨bounded, ascending, entries, -⟩ := safe
        have least : 24 ≤ s.ros.entries.length := Nat.le_of_not_lt full
        exact ⟨bounded, ascending, entries, fun _ => le_antisymm bounded least⟩
    · exact safe

/-! ## What keeps it -/

/-- The roster is in order, and the own announce period, which an admitted peer may take, in range. -/
def RosterKept (s : State) : Prop := ConfigSafe s ∧ RosterSafe s

theorem RosterKept.of_same (cfg : t.sup.cfg = s.sup.cfg) (addr : t.sup.ownAddr = s.sup.ownAddr) (ros : t.ros = s.ros)
    (holds : RosterKept s) : RosterKept t := ⟨configSafe_of_cfg cfg holds.1, rosterSafe_of_ros ros addr holds.2⟩

theorem pAnn_inRange (config : ConfigSafe s) : 100 ≤ s.sup.cfg.pAnn ∧ s.sup.cfg.pAnn ≤ 1000 ∧ s.sup.cfg.pAnn % 50 = 0 := by
  obtain ⟨units, -⟩ := config
  simp only [ConfigSet.pAnn]
  omega

theorem rosterKept_blindCore : KeptBlindCore RosterKept where
  line _ _ _ := id
  ros s f update holds := by
    obtain ⟨config, safe⟩ := holds
    refine ⟨config, ?_⟩
    cases update with
    | takes f other => exact rosterSafe_rosterTakes (frameInRange_readPeerFrame _ _) other (pAnn_inRange config) safe
    | stale addr => exact rosterSafe_changeEntry (fun _ => rfl) (fun _ => id) safe
    | removal addr => exact rosterSafe_removeEntry addr safe
  dsu _ _ := id
  msu _ _ := id
  svc _ _ := id
  vlv _ _ := id
  shr _ _ := id
  station s _ keeps := by
    obtain ⟨⟨-, cfg, addr, -⟩, -⟩ := keeps s.sup
    exact RosterKept.of_same cfg addr rfl
  mode _ _ _ := id
  record _ _ := id
  freeze _ _ _ _ := id

theorem rosterKept_blind : KeptBlind RosterKept := rosterKept_blindCore.toBlind (fun _ _ => id) fun _ _ => id

theorem rosterSafe_of_empty (empty : s.ros = State.reset.ros) : RosterSafe s := by
  unfold RosterSafe
  rw [empty]
  exact ⟨by decide, .nil, nofun, nofun⟩

theorem rosterKept_after (c : Instr) (starting : StartingSafe s) (holds : RosterKept s) : RosterKept (after c s) := by
  cases c with
  | reset => exact ⟨configInRange_default, rosterSafe_of_empty rfl⟩
  | resetRelease addr seg =>
    simp only [after, resetRelease]
    split
    case isTrue held =>
      obtain ⟨mode, -, -, asReset⟩ := starting
      obtain ⟨-, -, -, ros, -⟩ := asReset (mode.2 (.inl held))
      exact ⟨holds.1, rosterSafe_of_empty ros⟩
    · exact holds
  | loadEnd image => exact rosterKept_blind.loadEnd image holds fun _ => ⟨configInRange_loadImage image, holds.2⟩
  | freeze => exact whenReleased_keeps holds (holds.of_same (by simp [answer]) (by simp [answer]) (by simp [answer]))
  | resume =>
    simp only [after, resumeCommand]
    refine whenReleased_keeps holds ?_
    split <;> exact holds
  | _ => exact rosterKept_blind.after (fun _ m => RosterKept.of_same (by simp) (by simp) (by simp)) rfl holds

/-- A tick counts the silences only. -/
theorem rosterSafe_tickState (safe : RosterSafe s) : RosterSafe (tickState s) := by
  obtain ⟨bounded, ascending, entries, full⟩ := safe
  refine ⟨?_, ?_, ?_, ?_⟩
  · simpa [tickState, tickRoster] using bounded
  · simpa [tickState, tickRoster, List.pairwise_map] using ascending
  · intro x mem
    obtain ⟨y, held, rfl⟩ := List.mem_map.1 mem
    exact entries y held
  · simpa [tickState, tickRoster] using full

/-- Settles O53: a frame and the ageing each leave the roster in order and in range, and no other command but RESET writes it. -/
theorem rosterIsKept : Obligations.RosterIsKept := by
  unfold Obligations.RosterIsKept
  intro s t starting config safe
  exact step_leads (Q := fun s => StartingSafe s ∧ RosterKept s) (fun _ _ => id) (fun _ _ => id) (fun _ q => q.2.2)
    (fun c _ q => (rosterKept_after c q.1 q.2).2) (fun _ q => rosterSafe_tickState q.2.2) ⟨starting, config, safe⟩

end Sys2Proof.Machine
end

section
/-! PROOF. The watch engine unit by unit (R105 to R119): what a sample, an arming event and a firing make of each unit, and O56 from it. -/

namespace Sys2Proof.Machine

open Safety

variable {s t : State}

/-! ## One unit -/

theorem mapUnit_units (u k : Fin 8) (f : WatchUnit → WatchUnit) :
    (mapUnit u f s).wch.units[k] = if k = u then f s.wch.units[k] else s.wch.units[k] := by
  split
  case isTrue same => rw [same]; exact mapUnit_same s u f
  case isFalse other => exact mapUnit_other s u k f (Ne.symm other)

theorem armUnit_armUnit (c : UnitConfig) (w : WatchUnit) : armUnit c (armUnit c w) = armUnit c w := by
  obtain ⟨-, eq⟩ | ⟨was, eq⟩ | ⟨-, eq⟩ := armUnit_cases c w
  · rw [eq]
    by_cases unlimited : c.window = 0 <;> simp [armUnit, freshWindow, unlimited]
  · rw [eq]
    by_cases unlimited : c.window = 0 <;> simp [armUnit, freshWindow, unlimited, was]
  · rw [eq, eq]

theorem armDependants_units (e : Arming) (k : Fin 8) :
    (armDependants e s).wch.units[k] =
      if s.sup.cfg.units[k].arming = e then armUnit s.sup.cfg.units[k] s.wch.units[k] else s.wch.units[k] := by
  have fold (l : List (Fin 8)) (fresh : l.Nodup) : ∀ s : State,
      (l.foldl (fun s u => if s.sup.cfg.units[u].arming = e then mapUnit u (armUnit s.sup.cfg.units[u]) s else s) s).wch.units[k] =
        if k ∈ l ∧ s.sup.cfg.units[k].arming = e then armUnit s.sup.cfg.units[k] s.wch.units[k] else s.wch.units[k] := by
    induction l with
    | nil => simp
    | cons u l ih =>
      intro s
      obtain ⟨absent, fresh⟩ := List.nodup_cons.1 fresh
      rw [List.foldl_cons, ih fresh]
      by_cases arms : s.sup.cfg.units[u].arming = e
      · rw [if_pos arms, mapUnit_units, mapUnit_sup]
        by_cases same : k = u
        · subst same
          simp [absent, arms, -Fin.getElem_fin]
        · simp [same]
      · rw [if_neg arms]
        by_cases same : k = u
        · subst same
          simp [absent, arms, -Fin.getElem_fin]
        · simp [same]
  unfold armDependants
  rw [fold allUnits (by decide)]
  simp [mem_allUnits]

/-! ## A firing and a return, unit by unit -/

theorem markFired_units (u k : Fin 8) :
    (markFired u s).wch.units[k] =
      if k = u then { s.wch.units[k] with status := .fired, count := s.sup.cfg.units[k].countN, clear := 0, window := none }
      else s.wch.units[k] := by
  split
  case isTrue same => rw [same]; exact markFired_same s u
  case isFalse other =>
    simp only [markFired, setWatchFired_wch, handEvent_wch]
    rw [mapUnit_units, if_neg other]

theorem leaveFired_units (u k : Fin 8) :
    (leaveFired u s).wch.units[k] =
      if k = u then
        { s.wch.units[k] with
          status := if s.sup.cfg.units[k].arming = .always then .armed else .disarmed
          count := 0, clear := 0, window := none }
      else s.wch.units[k] := by
  split
  case isTrue same => rw [same]; exact leaveFired_same s u
  case isFalse other =>
    simp only [leaveFired, reevalWatchFired_wch, handEvent_wch]
    rw [mapUnit_units, if_neg other]

/-- A firing, by the normal engine or the dry check: the unit FIRED with its counter at N, and its dependants armed (R111, R114). -/
def firedUnit (c : ConfigSet) (u k : Fin 8) (w : WatchUnit) : WatchUnit :=
  if k = u then { w with status := .fired, count := c.units[k].countN, clear := 0, window := none }
  else if c.units[k].arming = .afterUnit u then armUnit c.units[k] w else w

theorem armed_firedUnit (c : ConfigSet) (u k : Fin 8) (w : WatchUnit) :
    (if c.units[k].arming = .afterUnit u then
        armUnit c.units[k]
          (if k = u then { w with status := .fired, count := c.units[k].countN, clear := 0, window := none } else w)
      else if k = u then { w with status := .fired, count := c.units[k].countN, clear := 0, window := none } else w) =
      firedUnit c u k w := by
  unfold firedUnit
  by_cases same : k = u
  · rw [if_pos same, if_pos same]
    exact ite_self _
  · rw [if_neg same, if_neg same]

theorem fireUnit_units (u k : Fin 8) : (fireUnit u s).wch.units[k] = firedUnit s.sup.cfg u k s.wch.units[k] := by
  simp only [fireUnit]
  rw [armDependants_units, runAction_cfg, runAction_wch, markFired_cfg, markFired_units]
  exact armed_firedUnit _ u k _

theorem fireInDryCheck_units (u k : Fin 8) : (fireInDryCheck u s).wch.units[k] = firedUnit s.sup.cfg u k s.wch.units[k] := by
  simp only [fireInDryCheck]
  rw [armDependants_units, requestFreeze_sup, requestFreeze_wch, markFired_cfg, markFired_units]
  exact armed_firedUnit _ u k _

/-! ## A sample, unit by unit -/

/-- What a counted sample makes of an ARMED unit (R110). -/
def countedUnit (c : UnitConfig) (v : Int) (w : WatchUnit) : WatchUnit :=
  if qualifies c v then
    if c.countN ≤ w.count + 1 then { w with status := .fired, count := c.countN, clear := 0, window := none }
    else { w with count := w.count + 1 }
  else
    match c.countMode with
    | .consecutive => { w with count := 0 }
    | .cumulative => w

/-- What a sample makes of a FIRED unit (R117, R118). -/
def clearedUnit (c : UnitConfig) (v : Int) (w : WatchUnit) : WatchUnit :=
  match c.latch with
  | .latched => w
  | .selfClear =>
    if qualifies c v then { w with clear := 0 }
    else if c.clearCount ≤ w.clear + 1 then
      { w with status := if c.arming = .always then .armed else .disarmed, count := 0, clear := 0, window := none }
    else { w with clear := w.clear + 1 }

/-- What a sample makes of a unit of its source, by the state it held at the arrival (R109). -/
def sampledUnit (c : UnitConfig) (atArrival : UnitStatus) (v : Int) (w : WatchUnit) : WatchUnit :=
  match atArrival with
  | .disarmed => { w with last := some v }
  | .armed => countedUnit c v { w with last := some v }
  | .fired => clearedUnit c v { w with last := some v }

/-- w' is w, or w after one arming event of another unit's firing; a second one would change nothing more. -/
def Rearmed (c : UnitConfig) (w w' : WatchUnit) : Prop := w' = w ∨ (∃ u, c.arming = .afterUnit u) ∧ w' = armUnit c w

theorem Rearmed.refl (c : UnitConfig) (w : WatchUnit) : Rearmed c w w := .inl rfl

theorem Rearmed.trans {c : UnitConfig} {w w' w'' : WatchUnit} (first : Rearmed c w w') (second : Rearmed c w' w'') :
    Rearmed c w w'' := by
  obtain rfl | ⟨dependent, rfl⟩ := first
  · exact second
  · obtain rfl | ⟨-, rfl⟩ := second
    · exact .inr ⟨dependent, rfl⟩
    · exact .inr ⟨dependent, armUnit_armUnit c w⟩

theorem rearmed_firedUnit (c : ConfigSet) {u k : Fin 8} (other : k ≠ u) (w : WatchUnit) : Rearmed c.units[k] w (firedUnit c u k w) := by
  unfold firedUnit
  rw [if_neg other]
  split
  case isTrue arming => exact .inr ⟨⟨u, arming⟩, rfl⟩
  · exact .refl _ _

theorem countSample_cases (u : Fin 8) (v : Int) (s : State) :
    qualifies s.sup.cfg.units[u] v = true ∧ s.sup.cfg.units[u].countN ≤ s.wch.units[u].count + 1 ∧ countSample u v s = fireUnit u s ∨
    qualifies s.sup.cfg.units[u] v = true ∧ ¬s.sup.cfg.units[u].countN ≤ s.wch.units[u].count + 1 ∧
      countSample u v s = mapUnit u (fun w => { w with count := w.count + 1 }) s ∨
    qualifies s.sup.cfg.units[u] v = false ∧ s.sup.cfg.units[u].countMode = .consecutive ∧
      countSample u v s = mapUnit u (fun w => { w with count := 0 }) s ∨
    qualifies s.sup.cfg.units[u] v = false ∧ s.sup.cfg.units[u].countMode = .cumulative ∧ countSample u v s = s := by
  simp only [countSample]
  by_cases meets : qualifies s.sup.cfg.units[u] v = true
  · rw [if_pos meets]
    by_cases full : s.sup.cfg.units[u].countN ≤ s.wch.units[u].count + 1
    · exact .inl ⟨meets, full, if_pos full⟩
    · exact .inr (.inl ⟨meets, full, if_neg full⟩)
  · rw [if_neg meets]
    cases s.sup.cfg.units[u].countMode with
    | consecutive => exact .inr (.inr (.inl ⟨by simpa using meets, rfl, rfl⟩))
    | cumulative => exact .inr (.inr (.inr ⟨by simpa using meets, rfl, rfl⟩))

theorem clearSample_cases (u : Fin 8) (v : Int) (s : State) :
    s.sup.cfg.units[u].latch = .latched ∧ clearSample u v s = s ∨
    s.sup.cfg.units[u].latch = .selfClear ∧ qualifies s.sup.cfg.units[u] v = true ∧
      clearSample u v s = mapUnit u (fun w => { w with clear := 0 }) s ∨
    s.sup.cfg.units[u].latch = .selfClear ∧ qualifies s.sup.cfg.units[u] v = false ∧
      s.sup.cfg.units[u].clearCount ≤ s.wch.units[u].clear + 1 ∧ clearSample u v s = leaveFired u s ∨
    s.sup.cfg.units[u].latch = .selfClear ∧ qualifies s.sup.cfg.units[u] v = false ∧
      ¬s.sup.cfg.units[u].clearCount ≤ s.wch.units[u].clear + 1 ∧
      clearSample u v s = mapUnit u (fun w => { w with clear := w.clear + 1 }) s := by
  simp only [clearSample]
  cases s.sup.cfg.units[u].latch with
  | latched => exact .inl ⟨rfl, rfl⟩
  | selfClear =>
    by_cases meets : qualifies s.sup.cfg.units[u] v = true
    · exact .inr (.inl ⟨rfl, meets, if_pos meets⟩)
    · dsimp only
      rw [if_neg meets]
      rw [Bool.not_eq_true] at meets
      by_cases full : s.sup.cfg.units[u].clearCount ≤ s.wch.units[u].clear + 1
      · exact .inr (.inr (.inl ⟨rfl, meets, full, if_pos full⟩))
      · exact .inr (.inr (.inr ⟨rfl, meets, full, if_neg full⟩))

theorem countSample_same (u : Fin 8) (v : Int) :
    (countSample u v s).wch.units[u] = countedUnit s.sup.cfg.units[u] v s.wch.units[u] := by
  unfold countedUnit
  obtain ⟨meets, full, eq⟩ | ⟨meets, full, eq⟩ | ⟨meets, mode, eq⟩ | ⟨meets, mode, eq⟩ := countSample_cases u v s
  · rw [eq, if_pos meets, if_pos full, fireUnit_units, firedUnit, if_pos rfl]
  · rw [eq, if_pos meets, if_neg full, mapUnit_units, if_pos rfl]
  · rw [eq, if_neg (Bool.eq_false_iff.1 meets), mode, mapUnit_units, if_pos rfl]
  · rw [eq, if_neg (Bool.eq_false_iff.1 meets), mode]

theorem countSample_other {u k : Fin 8} (other : k ≠ u) (v : Int) :
    Rearmed s.sup.cfg.units[k] s.wch.units[k] (countSample u v s).wch.units[k] := by
  obtain ⟨-, -, eq⟩ | ⟨-, -, eq⟩ | ⟨-, -, eq⟩ | ⟨-, -, eq⟩ := countSample_cases u v s
  all_goals rw [eq]
  · rw [fireUnit_units]
    exact rearmed_firedUnit _ other _
  · exact .inl (by rw [mapUnit_units, if_neg other])
  · exact .inl (by rw [mapUnit_units, if_neg other])
  · exact .refl _ _

theorem clearSample_same (u : Fin 8) (v : Int) :
    (clearSample u v s).wch.units[u] = clearedUnit s.sup.cfg.units[u] v s.wch.units[u] := by
  unfold clearedUnit
  obtain ⟨latch, eq⟩ | ⟨latch, meets, eq⟩ | ⟨latch, meets, full, eq⟩ | ⟨latch, meets, full, eq⟩ := clearSample_cases u v s
  · rw [eq, latch]
  · rw [eq, latch, if_pos meets, mapUnit_units, if_pos rfl]
  · rw [eq, latch, if_neg (Bool.eq_false_iff.1 meets), if_pos full, leaveFired_units, if_pos rfl]
  · rw [eq, latch, if_neg (Bool.eq_false_iff.1 meets), if_neg full, mapUnit_units, if_pos rfl]

theorem clearSample_other {u k : Fin 8} (other : k ≠ u) (v : Int) : (clearSample u v s).wch.units[k] = s.wch.units[k] := by
  obtain ⟨-, eq⟩ | ⟨-, -, eq⟩ | ⟨-, -, -, eq⟩ | ⟨-, -, -, eq⟩ := clearSample_cases u v s
  all_goals rw [eq]
  · rw [mapUnit_units, if_neg other]
  · rw [leaveFired_units, if_neg other]
  · rw [mapUnit_units, if_neg other]

/-- The unit that takes a sample. -/
theorem unitTakesSample_same (a : UnitStatus) (u : Fin 8) (v : Int) :
    (unitTakesSample a u v s).wch.units[u] = sampledUnit s.sup.cfg.units[u] a v s.wch.units[u] := by
  have noted := (mapUnit_units (s := s) u u fun w => { w with last := some v }).trans (if_pos rfl)
  cases a with
  | disarmed => exact noted
  | armed => exact (countSample_same u v).trans (by rw [noted, mapUnit_sup]; rfl)
  | fired => exact (clearSample_same u v).trans (by rw [noted, mapUnit_sup]; rfl)

/-- The other units. -/
theorem unitTakesSample_other (a : UnitStatus) {u k : Fin 8} (other : k ≠ u) (v : Int) :
    Rearmed s.sup.cfg.units[k] s.wch.units[k] (unitTakesSample a u v s).wch.units[k] := by
  have noted := (mapUnit_units (s := s) u k fun w => { w with last := some v }).trans (if_neg other)
  cases a with
  | disarmed => exact .inl noted
  | armed =>
    have counted := countSample_other (s := mapUnit u (fun w => { w with last := some v }) s) other v
    rwa [noted, mapUnit_sup] at counted
  | fired => exact .inl ((clearSample_other other v).trans noted)

/-- A delivery over a list of units: each unit of the source in the list takes the sample once, by its state at the arrival, before and
after which firings of other units may arm it. -/
theorem delivered_units (src : Source) (v : Int) (arrival : Vector WatchUnit 8) (k : Fin 8) (l : List (Fin 8)) (fresh : l.Nodup) :
    ∀ s : State,
      let t := l.foldl
        (fun t u => if t.sup.cfg.units[u].source = src then unitTakesSample arrival[u].status u v t else t) s
      (k ∉ l ∨ s.sup.cfg.units[k].source ≠ src → Rearmed s.sup.cfg.units[k] s.wch.units[k] t.wch.units[k]) ∧
      (k ∈ l → s.sup.cfg.units[k].source = src →
        ∃ w, Rearmed s.sup.cfg.units[k] s.wch.units[k] w ∧
          Rearmed s.sup.cfg.units[k] (sampledUnit s.sup.cfg.units[k] arrival[k].status v w) t.wch.units[k]) := by
  induction l with
  | nil => exact fun s => ⟨fun _ => .refl _ _, nofun⟩
  | cons u l ih =>
    intro s
    obtain ⟨absent, fresh⟩ := List.nodup_cons.1 fresh
    obtain ⟨unsampled, sampled⟩ := ih fresh
      (if s.sup.cfg.units[u].source = src then unitTakesSample arrival[u].status u v s else s)
    have cfg : (if s.sup.cfg.units[u].source = src then unitTakesSample arrival[u].status u v s else s).sup.cfg = s.sup.cfg := by
      split <;> simp
    rw [cfg] at unsampled sampled
    have before (other : k ≠ u ∨ s.sup.cfg.units[k].source ≠ src) : Rearmed s.sup.cfg.units[k] s.wch.units[k]
        (if s.sup.cfg.units[u].source = src then unitTakesSample arrival[u].status u v s else s).wch.units[k] := by
      split
      case isTrue source =>
        refine unitTakesSample_other _ ?_ v
        rintro rfl
        exact other.elim (absurd rfl) (absurd source)
      · exact .refl _ _
    refine ⟨fun outside => ?_, fun mem source => ?_⟩
    · have other : k ≠ u ∨ s.sup.cfg.units[k].source ≠ src := outside.imp_left fun notIn same => notIn (same ▸ List.mem_cons_self)
      exact (before other).trans (unsampled (outside.imp_left fun notIn mem => notIn (List.mem_cons_of_mem _ mem)))
    · obtain rfl | mem := List.mem_cons.1 mem
      · refine ⟨_, .refl _ _, ?_⟩
        have rest := unsampled (.inl absent)
        have taken : (if s.sup.cfg.units[k].source = src then unitTakesSample arrival[k].status k v s else s).wch.units[k] =
            sampledUnit s.sup.cfg.units[k] arrival[k].status v s.wch.units[k] := by
          rw [if_pos source, unitTakesSample_same]
        rw [taken] at rest
        exact rest
      · obtain ⟨w, earlier, later⟩ := sampled mem source
        exact ⟨w, (before (.inl fun same => absent (same ▸ mem))).trans earlier, later⟩

theorem deliverSample_of_evaluating (evaluating : isEvaluating s.sup.mode = true) (src : Source) (v : Int) (k : Fin 8) :
    (s.sup.cfg.units[k].source ≠ src →
      Rearmed s.sup.cfg.units[k] s.wch.units[k] (deliverSample src v s).wch.units[k]) ∧
    (s.sup.cfg.units[k].source = src →
      ∃ w, Rearmed s.sup.cfg.units[k] s.wch.units[k] w ∧
        Rearmed s.sup.cfg.units[k] (sampledUnit s.sup.cfg.units[k] s.wch.units[k].status v w) (deliverSample src v s).wch.units[k]) := by
  have delivered : deliverSample src v s = allUnits.foldl
      (fun t u => if t.sup.cfg.units[u].source = src then unitTakesSample s.wch.units[u].status u v t else t) s := if_pos evaluating
  rw [delivered]
  obtain ⟨unsampled, sampled⟩ := delivered_units src v s.wch.units k allUnits (by decide) s
  exact ⟨fun other => unsampled (.inr other), sampled (mem_allUnits k)⟩

theorem deliverSample_of_not_evaluating (off : isEvaluating s.sup.mode = false) (src : Source) (v : Int) : deliverSample src v s = s := by
  simp [deliverSample, off]

/-! ## The units with their bounds -/

theorem freshWindow_le {c : UnitConfig} {us : Nat} (running : freshWindow c = some us) : us ≤ 1000 * c.window := by
  unfold freshWindow at running
  split at running
  · cases running
  · exact (Option.some.inj running).ge

theorem unitSafe_armUnit {c : UnitConfig} {w : WatchUnit} (count : 1 ≤ c.countN) (dependent : c.arming ≠ .always)
    (safe : UnitSafe c w) : UnitSafe c (armUnit c w) := by
  obtain ⟨disarmed, armed, fired, clear, below, window, last⟩ := safe
  obtain ⟨was, eq⟩ | ⟨was, eq⟩ | ⟨-, eq⟩ := armUnit_cases c w
  all_goals rw [eq]
  · refine ⟨nofun, fun _ => count, nofun, fun counted => ?_, below, fun us running => ⟨rfl, dependent, freshWindow_le running⟩, last⟩
    exact absurd (was.symm.trans (clear counted).1) nofun
  · refine ⟨disarmed, armed, fired, clear, below, fun us running => ⟨was, dependent, ?_⟩, last⟩
    dsimp only at running
    split at running
    · exact (window us running).2.2
    · exact freshWindow_le running
  · exact ⟨disarmed, armed, fired, clear, below, window, last⟩

theorem unitSafe_rearmed {c : UnitConfig} {w w' : WatchUnit} (count : 1 ≤ c.countN) (rearmed : Rearmed c w w') (safe : UnitSafe c w) :
    UnitSafe c w' := by
  obtain rfl | ⟨⟨u, arming⟩, rfl⟩ := rearmed
  · exact safe
  · exact unitSafe_armUnit count (by simp [arming]) safe

theorem rearmed_status {c : UnitConfig} {w w' : WatchUnit} (rearmed : Rearmed c w w') (ready : w.status ≠ .disarmed) :
    w'.status = w.status := by
  obtain rfl | ⟨-, rfl⟩ := rearmed
  · rfl
  · obtain ⟨was, -⟩ | ⟨was, eq⟩ | ⟨-, eq⟩ := armUnit_cases c w
    · exact absurd was ready
    · rw [eq]
    · rw [eq]

theorem unitSafe_last {c : UnitConfig} {w : WatchUnit} (v : Int) (source : c.source ≠ .none) (safe : UnitSafe c w) :
    UnitSafe c { w with last := some v } := by
  obtain ⟨disarmed, armed, fired, clear, below, window, -⟩ := safe
  exact ⟨disarmed, armed, fired, clear, below, window, fun none => absurd none source⟩

theorem unitSafe_fired {c : UnitConfig} {w : WatchUnit} (clears : 1 ≤ c.clearCount) (safe : UnitSafe c w) :
    UnitSafe c { w with status := .fired, count := c.countN, clear := 0, window := none } := by
  obtain ⟨-, -, -, -, -, -, last⟩ := safe
  exact ⟨nofun, nofun, fun _ => rfl, fun counted => absurd rfl counted, clears, nofun, last⟩

theorem unitSafe_left {c : UnitConfig} {w : WatchUnit} (count : 1 ≤ c.countN) (clears : 1 ≤ c.clearCount) (safe : UnitSafe c w) :
    UnitSafe c { w with
      status := if c.arming = .always then .armed else .disarmed, count := 0, clear := 0, window := none } := by
  obtain ⟨-, -, -, -, -, -, last⟩ := safe
  refine ⟨fun disarmed => ⟨rfl, ?_⟩, fun _ => count, fun fired => ?_, fun counted => absurd rfl counted, clears, nofun, last⟩
  · intro always
    simp [always] at disarmed
  · dsimp only at fired
    split at fired <;> cases fired

theorem unitSafe_countedUnit {c : UnitConfig} {w : WatchUnit} (count : 1 ≤ c.countN) (clears : 1 ≤ c.clearCount) (v : Int)
    (armed : w.status = .armed) (safe : UnitSafe c w) : UnitSafe c (countedUnit c v w) := by
  have counted {n : Nat} (below : n < c.countN) : UnitSafe c { w with count := n } := by
    obtain ⟨disarmed, -, fired, clear, under, window, last⟩ := safe
    exact ⟨fun now => absurd (armed.symm.trans now) nofun, fun _ => below, fun now => absurd (armed.symm.trans now) nofun, clear, under,
      window, last⟩
  unfold countedUnit
  split
  · split
    · exact unitSafe_fired clears safe
    · exact counted (by omega)
  · split
    · exact counted count
    · exact safe

theorem unitSafe_clearedUnit {c : UnitConfig} {w : WatchUnit} (count : 1 ≤ c.countN) (clears : 1 ≤ c.clearCount) (v : Int)
    (fired : w.status = .fired) (safe : UnitSafe c w) : UnitSafe c (clearedUnit c v w) := by
  have counted {n : Nat} (latch : c.latch = .selfClear) (below : n < c.clearCount) : UnitSafe c { w with clear := n } := by
    obtain ⟨disarmed, armed, full, -, -, window, last⟩ := safe
    exact ⟨disarmed, armed, full, fun _ => ⟨fired, latch⟩, below, window, last⟩
  unfold clearedUnit
  split
  · exact safe
  · split
    · exact counted ‹_› clears
    · split
      · exact unitSafe_left count clears safe
      · exact counted ‹_› (by omega)

theorem unitSafe_sampledUnit {c : UnitConfig} {w : WatchUnit} {atArrival : UnitStatus} (count : 1 ≤ c.countN) (clears : 1 ≤ c.clearCount)
    (v : Int) (source : c.source ≠ .none) (still : atArrival ≠ .disarmed → w.status = atArrival) (safe : UnitSafe c w) :
    UnitSafe c (sampledUnit c atArrival v w) := by
  have noted := unitSafe_last v source safe
  cases atArrival with
  | disarmed => exact noted
  | armed => exact unitSafe_countedUnit count clears v (still nofun) noted
  | fired => exact unitSafe_clearedUnit count clears v (still nofun) noted

/-! ## What keeps them -/

/-- The units are as R105 states, in a configuration set whose counts are at least 1. -/
def WatchKept (s : State) : Prop := ConfigSafe s ∧ WatchSafe s

theorem WatchKept.of_same (cfg : t.sup.cfg = s.sup.cfg) (wch : t.wch = s.wch) (holds : WatchKept s) : WatchKept t := by
  obtain ⟨config, safe⟩ := holds
  refine ⟨configSafe_of_cfg cfg config, ?_⟩
  unfold WatchSafe
  rwa [cfg, wch]

theorem counts_of_configSafe (config : ConfigSafe s) (u : Fin 8) :
    1 ≤ s.sup.cfg.units[u].countN ∧ 1 ≤ s.sup.cfg.units[u].clearCount := by
  obtain ⟨-, -, -, -, -, -, -, -, -, -, -, -, -, -, -, -, -, -, -, -, -, -, -, -, -, -, -, -, units⟩ := config
  obtain ⟨-, -, count, -, clears, -⟩ := units u
  exact ⟨count.1, clears.1⟩

/-- It is enough to look at the units one by one. -/
theorem WatchKept.of_units (cfg : t.sup.cfg = s.sup.cfg) (holds : WatchKept s)
    (each : ∀ k : Fin 8, 1 ≤ s.sup.cfg.units[k].countN → 1 ≤ s.sup.cfg.units[k].clearCount →
      UnitSafe s.sup.cfg.units[k] s.wch.units[k] → UnitSafe s.sup.cfg.units[k] t.wch.units[k]) : WatchKept t := by
  obtain ⟨config, safe⟩ := holds
  refine ⟨configSafe_of_cfg cfg config, fun k => ?_⟩
  obtain ⟨count, clears⟩ := counts_of_configSafe config k
  rw [cfg]
  exact each k count clears (safe k)

theorem watchKept_deliverSample {src : Source} (v : Int) (named : src ≠ .none) (holds : WatchKept s) :
    WatchKept (deliverSample src v s) := by
  cases evaluating : isEvaluating s.sup.mode
  · rwa [deliverSample_of_not_evaluating evaluating]
  · refine holds.of_units (deliverSample_cfg s src v) fun k count clears safe => ?_
    obtain ⟨unsampled, sampled⟩ := deliverSample_of_evaluating evaluating src v k
    by_cases source : s.sup.cfg.units[k].source = src
    · obtain ⟨w, before, after⟩ := sampled source
      exact unitSafe_rearmed count after
        (unitSafe_sampledUnit count clears v (source ▸ named) (rearmed_status before) (unitSafe_rearmed count before safe))
    · exact unitSafe_rearmed count (unsampled source) safe

theorem unitSafe_firedUnit {c : ConfigSet} {u k : Fin 8} {w : WatchUnit} (count : 1 ≤ c.units[k].countN)
    (clears : 1 ≤ c.units[k].clearCount) (safe : UnitSafe c.units[k] w) : UnitSafe c.units[k] (firedUnit c u k w) := by
  unfold firedUnit
  split
  · exact unitSafe_fired clears safe
  · split
    case isTrue arming => exact unitSafe_armUnit count (by rw [arming]; exact nofun) safe
    · exact safe

theorem watchKept_byWatch : KeptByWatch WatchKept where
  sample _ _ v := watchKept_deliverSample v
  arms s holds := by
    refine holds.of_units (congrArg Supervisor.cfg (armDependants_sup s _)) fun k count _ safe => ?_
    rw [armDependants_units]
    split
    case isTrue arming => exact unitSafe_armUnit count (by rw [arming]; exact nofun) safe
    · exact safe
  leaves s returns holds := by
    refine foldl_induct (fun t u ht => ?_) allUnits holds
    split
    · refine ht.of_units (leaveFired_cfg t u) fun k count clears safe => ?_
      rw [leaveFired_units]
      split
      · exact unitSafe_left count clears safe
      · exact safe
    · exact ht
  fires s units holds := by
    refine foldl_induct (fun t u ht => ?_) units holds
    split
    · exact ht
    · refine ht.of_units (fireInDryCheck_cfg t u) fun k count clears safe => ?_
      rw [fireInDryCheck_units]
      exact unitSafe_firedUnit count clears safe
  expires s u holds := by
    unfold windowExpiry
    split
    case isTrue running =>
      refine holds.of_units (congrArg Supervisor.cfg (mapUnit_sup s u _)) fun k count clears safe => ?_
      rw [mapUnit_units]
      split
      case isTrue same =>
        obtain ⟨armed, window, -⟩ := running
        rw [← same] at armed window
        obtain ⟨us, running⟩ := Option.isSome_iff_exists.1 window
        obtain ⟨-, -, -, clear, below, runs, last⟩ := safe
        refine ⟨fun _ => ⟨rfl, (runs us running).2.1⟩, nofun, nofun, fun counted => ?_, below, nofun, last⟩
        exact absurd (armed.symm.trans (clear counted).1) nofun
      · exact safe
    · exact holds

theorem watchKept_blind : KeptBlind WatchKept where
  line _ _ _ := id
  ros _ _ _ := id
  dsu _ _ := id
  msu _ _ := id
  svc _ _ := id
  vlv _ _ := id
  shr _ _ := id
  station s _ keeps := WatchKept.of_same (keeps s.sup).1.2.1 rfl
  mode _ _ _ := id
  record _ _ := id
  freeze _ _ _ _ := id
  toKeptByWatch := watchKept_byWatch

theorem unitSafe_fresh {u : Fin 8} {c : UnitConfig} (inRange : UnitInRange u c) : UnitSafe c (freshUnit c) := by
  obtain ⟨-, -, count, -, clears, -⟩ := inRange
  refine ⟨fun disarmed => ⟨rfl, fun always => ?_⟩, fun _ => count.1, fun fired => ?_, fun counted => absurd rfl counted, clears.1, nofun,
    fun _ => rfl⟩
  · simp [freshUnit, always] at disarmed
  · unfold freshUnit at fired
    dsimp only at fired
    split at fired <;> cases fired

theorem freshWatch_units (c : ConfigSet) (k : Fin 8) : (freshWatch c).units[k] = freshUnit c.units[k] := by
  fin_cases k <;> rfl

theorem unitSafe_freshWatch {c : ConfigSet} (inRange : ConfigInRange c) (k : Fin 8) : UnitSafe c.units[k] (freshWatch c).units[k] := by
  obtain ⟨-, -, -, -, -, -, -, -, -, -, -, -, -, -, -, -, -, -, -, -, -, -, -, -, -, -, -, -, units⟩ := inRange
  rw [freshWatch_units]
  exact unitSafe_fresh (units k)

theorem watchKept_after (c : Instr) (holds : WatchKept s) : WatchKept (after c s) := by
  cases c with
  | reset => exact ⟨configInRange_default, unitSafe_freshWatch configInRange_default⟩
  | resetRelease addr seg =>
    simp only [after, resetRelease]
    split <;> exact holds
  | loadEnd image =>
    exact watchKept_blind.loadEnd image holds fun _ =>
      ⟨configInRange_loadImage image, unitSafe_freshWatch (configInRange_loadImage image)⟩
  | freeze => exact whenReleased_keeps holds (holds.of_same (by simp [answer]) (by simp [answer]))
  | resume =>
    simp only [after, resumeCommand]
    refine whenReleased_keeps holds ?_
    split <;> exact holds
  | _ => exact watchKept_blind.after (fun _ m => WatchKept.of_same (by simp) (by simp)) rfl holds

/-! ## A tick -/

theorem tickWatch_units (mode : Mode) (w : Watch) (k : Fin 8) :
    (tickWatch mode w).units[k] = if mode = .parked then w.units[k] else tickUnit w.units[k] := by
  unfold tickWatch
  split
  · rfl
  · fin_cases k <;> rfl

theorem unitSafe_tickUnit {c : UnitConfig} {w : WatchUnit} (safe : UnitSafe c w) : UnitSafe c (tickUnit w) := by
  obtain ⟨disarmed, armed, fired, clear, below, window, last⟩ := safe
  refine ⟨disarmed, armed, fired, clear, below, fun us running => ?_, last⟩
  obtain ⟨before, was, rfl⟩ := Option.map_eq_some_iff.1 running
  obtain ⟨now, dependent, bound⟩ := window before was
  exact ⟨now, dependent, (Nat.sub_le _ _).trans bound⟩

theorem watchSafe_tickState (safe : WatchSafe s) : WatchSafe (tickState s) := by
  intro k
  show UnitSafe s.sup.cfg.units[k] (tickWatch s.sup.mode s.wch).units[k]
  rw [tickWatch_units]
  split
  · exact safe k
  · exact unitSafe_tickUnit (safe k)

/-- Settles O56: what a sample, a firing, an arming event and a window's expiry make of a unit each leave it as its state asks. -/
theorem watchUnitsAreKept : Obligations.WatchUnitsAreKept := by
  unfold Obligations.WatchUnitsAreKept
  intro s t config safe
  exact step_leads (Q := WatchKept) (fun _ _ => id) (fun _ _ => id) (fun _ q => q.2) (fun c _ q => (watchKept_after c q).2)
    (fun _ q => watchSafe_tickState q.2) ⟨config, safe⟩

end Sys2Proof.Machine
end

section
/-! PROOF. The flags and the attention output (R19, R119, R173): what moves the condition of each brings it up to date, and O60 from
these. -/

namespace Sys2Proof.Machine

open Safety

variable {s t : State}

/-! ## WATCH_FIRED -/

/-- WATCH_FIRED stands exactly while a unit is FIRED. -/
def WatchFlag (s : State) : Prop := s.sup.watchFired = anyFired s

theorem anyFired_congr (same : ∀ u : Fin 8, t.wch.units[u].status = .fired ↔ s.wch.units[u].status = .fired) :
    anyFired t = anyFired s := by
  rw [Bool.eq_iff_iff, anyFired_iff, anyFired_iff]
  exact exists_congr same

theorem anyFired_mapUnit {u : Fin 8} {f : WatchUnit → WatchUnit}
    (same : (f s.wch.units[u]).status = .fired ↔ s.wch.units[u].status = .fired) : anyFired (mapUnit u f s) = anyFired s := by
  refine anyFired_congr fun k => ?_
  rw [mapUnit_units]
  split
  case isTrue eq => rw [eq, same]
  · exact .rfl

theorem watchFlag_markFired (u : Fin 8) : WatchFlag (markFired u s) := by
  have fired : anyFired (markFired u s) = true := by
    rw [anyFired_iff]
    exact ⟨u, by rw [markFired_units, if_pos rfl]⟩
  unfold WatchFlag
  rw [fired]
  rfl

theorem watchFlag_leaveFired (u : Fin 8) (flag : WatchFlag s) : WatchFlag (leaveFired u s) := by
  have still : anyFired (leaveFired u s) = true → s.sup.watchFired = true := by
    intro fired
    obtain ⟨k, fired⟩ := (anyFired_iff _).1 fired
    rw [leaveFired_units] at fired
    refine flag.trans ((anyFired_iff s).2 ⟨k, ?_⟩)
    split at fired
    · dsimp only at fired
      split at fired <;> cases fired
    · exact fired
  have set : (leaveFired u s).sup.watchFired = (s.sup.watchFired && anyFired (leaveFired u s)) := rfl
  unfold WatchFlag
  rw [set]
  exact Bool.and_eq_right_iff_imp.2 still

theorem watchFlag_core : KeptBlindCore WatchFlag where
  line _ _ _ := id
  ros _ _ _ := id
  dsu _ _ := id
  msu _ _ := id
  svc _ _ := id
  vlv _ _ := id
  shr _ _ := id
  station s _ keeps flag := (keeps s.sup).2.trans flag
  mode _ _ _ := id
  record _ _ := id
  freeze _ _ _ _ := id

theorem watchFlag_blind : KeptBlind WatchFlag where
  toKeptBlindCore := watchFlag_core
  toKeptByWatch := KeptByUnits.byWatch
    { unit := fun _ _ _ same flag => flag.trans (anyFired_mapUnit same).symm
      marks := fun _ u _ => watchFlag_markFired u
      left := fun _ u => watchFlag_leaveFired u
      freeze := watchFlag_core.freeze
      drip := fun _ v _ flag => watchFlag_core.core.byModes.queueDrip flag v
      isolate := fun _ flag => watchFlag_core.core.byModes.isolateAction flag }

theorem anyFired_fresh {c : ConfigSet} (fresh : t.wch = freshWatch c) : anyFired t = false := by
  rw [Bool.eq_false_iff, ne_eq, anyFired_iff, fresh]
  rintro ⟨u, fired⟩
  rw [freshWatch_units, freshUnit] at fired
  dsimp only at fired
  split at fired <;> cases fired

theorem watchFlag_after (c : Instr) (flag : WatchFlag s) : WatchFlag (after c s) := by
  cases c with
  | reset => exact (anyFired_fresh (c := defaultConfig) rfl).symm
  | resetRelease addr seg =>
    simp only [after, resetRelease]
    split <;> exact flag
  | loadEnd image => exact watchFlag_blind.loadEnd image flag fun _ => (anyFired_fresh rfl).symm
  | freeze => exact whenReleased_keeps flag flag
  | resume =>
    simp only [after, resumeCommand]
    refine whenReleased_keeps flag ?_
    split <;> exact flag
  | _ =>
    refine watchFlag_blind.after (fun s m hs => ?_) rfl flag
    simp only [processedSet]
    split <;> exact hs

/-! ## SENSOR_FAULT -/

/-- SENSOR_FAULT stands exactly while one of its conditions holds. -/
def SensorFlag (s : State) : Prop := s.sup.sensorFault = sensorFaultNow s

theorem SensorFlag.of_same (fault : t.sup.sensorFault = s.sup.sensorFault) (degrade : t.sup.joinDegrade = s.sup.joinDegrade)
    (faults : t.dsu.refFaults = s.dsu.refFaults) (latest : t.dsu.latest = s.dsu.latest) (chans : t.msu.chans = s.msu.chans)
    (flag : SensorFlag s) : SensorFlag t := by
  simp only [SensorFlag, sensorFaultNow, zoneOpen, fault, degrade, faults, latest, chans]
  exact flag

theorem sensorFlag_reeval : SensorFlag (reevalSensorFault s) := rfl

theorem sensorFlag_modes : KeptByModes SensorFlag where
  line _ _ _ := id
  ros _ _ _ := id
  svc _ _ := id
  join s _ keeps := by
    obtain ⟨-, degrade, fault⟩ := keeps s.sup
    exact SensorFlag.of_same fault degrade rfl rfl rfl
  mode _ _ _ := id
  record _ _ := id
  freeze _ _ _ _ := id
  opens s := SensorFlag.of_same (by simp) (by simp) (by simp) (by simp) (by simp)
  closes s := SensorFlag.of_same (by simp) (by simp) (by simp) (by simp) (by simp)
  starts _ _ := id
  triggers s _ := by
    refine SensorFlag.of_same (by simp) (by simp) ?_ ?_ (by simp)
    all_goals rw [urgentTrigger_dsu]; split <;> rfl

theorem sensorFlag_moves : KeptByMoves SensorFlag where
  toKeptByModes := sensorFlag_modes
  toKeptByWatch := sensorFlag_modes.byWatch (fun _ _ => id) fun _ _ => id

theorem sensorFlag_endScan (flag : SensorFlag s) : SensorFlag (endScan s) := by
  have ended : SensorFlag (s.mapDsu fun d => if d.rescan then beginScan { d with rescan := false }
      else { d with scan := .idle, counter := none, timeBase := none }) := by
    refine SensorFlag.of_same (s := s) rfl rfl ?_ ?_ rfl flag
    all_goals rw [State.mapDsu_dsu]; split <;> rfl
  simp only [endScan]
  split
  · exact ended
  · exact ended

theorem sensorFlag_afterSensorPhase (z : Fin 4) (flag : SensorFlag s) : SensorFlag (afterSensorPhase z s) := by
  unfold afterSensorPhase completeScan
  split
  · exact flag
  · refine sensorFlag_endScan ?_
    split
    · exact sensorFlag_moves.resolveDryCheck flag
    · exact flag

theorem sensorFlag_referenceFault (flag : SensorFlag s) : SensorFlag (referenceFault s) := by
  by_cases scan : s.dsu.scan = .reference
  · have ended : SensorFlag (endScan (faultTold s)) := sensorFlag_endScan sensorFlag_reeval
    rw [referenceFault_scanning scan]
    refine sensorFlag_modes.updateAttn ?_
    split
    case isTrue again =>
      have waits := (Bool.and_eq_true_iff.1 again).2
      exact sensorFlag_modes.triggers _ (by rw [(of_decide_eq_true waits).1]; rfl) ended
    · exact ended
  · rw [referenceFault_none scan]
    exact flag

theorem sensorFlag_strokeTimerExpiry (flag : SensorFlag s) : SensorFlag (strokeTimerExpiry s) := by
  simp only [strokeTimerExpiry]
  split
  · refine sensorFlag_modes.updateAttn ?_
    split <;> exact flag.of_same (by simp) (by simp) (by simp) (by simp) (by simp)
  all_goals exact flag

theorem sensorFlag_reset : SensorFlag State.reset := by
  unfold SensorFlag
  decide

theorem sensorFlag_after (c : Instr) (flag : SensorFlag s) : SensorFlag (after c s) := by
  have attn {t : State} (ht : SensorFlag t) : SensorFlag (updateAttn t) := ht
  cases c with
  | reset => exact sensorFlag_reset
  | resetRelease addr seg =>
    simp only [after, resetRelease]
    split <;> exact flag
  | loadEnd image =>
    simp only [after, loadEnd]
    split
    · exact attn (sensorFlag_modes.enterJoining (s := endStarting _) flag)
    · exact flag
  | conversionEnd code =>
    simp only [after, conversionEnd]
    split
    · exact flag
    · split
      · exact flag
      · refine attn (sensorFlag_moves.deliverSet _ (fun s m hs => ?_) (fun s m hs => ?_) sensorFlag_reeval)
        · exact hs.of_same (by simp) (by simp) (by simp) (by simp) (by simp)
        · exact hs.of_same (by simp) (by simp) (by simp) (by simp) (by simp)
  | periodStart =>
    simp only [after, periodStart]
    split <;> exact flag
  | pullInExpiry =>
    simp only [after, pullInExpiry]
    split <;> exact flag
  | strokeTimerExpiry => exact sensorFlag_strokeTimerExpiry flag
  | freeze => exact whenReleased_keeps flag flag
  | resume =>
    simp only [after, resumeCommand]
    refine whenReleased_keeps flag ?_
    split <;> exact flag
  | park =>
    simp only [after, parkCommand]
    refine whenReleased_keeps flag ?_
    split
    · exact sensorFlag_reeval
    · exact flag
  | scanTimerExpiry =>
    simp only [after, scanTimerExpiry]
    split
    · refine SensorFlag.of_same (s := s) rfl rfl ?_ ?_ rfl flag
      all_goals rw [timerTrigger_dsu]; split <;> rfl
    · exact flag
  | referencePhaseEnd ticks =>
    simp only [after, referencePhaseEnd]
    split
    · exact sensorFlag_reeval
    · exact flag
  | referenceFault => exact sensorFlag_referenceFault flag
  | sensorPhaseEnd cycles =>
    simp only [after, sensorPhaseEnd]
    split
    · split
      · exact attn (sensorFlag_afterSensorPhase _ sensorFlag_reeval)
      · exact flag
    all_goals exact flag
  | counterOverflow =>
    simp only [after, counterOverflow]
    split
    · exact attn (sensorFlag_afterSensorPhase _ sensorFlag_reeval)
    all_goals exact flag
  | acquisitionTimerExpiry =>
    simp only [after, acquisitionTimerExpiry]
    split
    · refine SensorFlag.of_same (s := s) rfl rfl rfl rfl ?_ flag
      simp only [State.mapMsu_msu]
      split <;> rfl
    · exact flag
  | flowRisingEdge ticks =>
    simp only [after, flowRisingEdge]
    split
    · exact flag
    · split
      · exact flag
      · split <;> exact flag
  | noFlow =>
    simp only [after, noFlow]
    split <;> exact flag
  | _ => exact sensorFlag_moves.after rfl flag

/-! ## ATTN -/

/-- ATTN stands exactly while one of its conditions holds. -/
def AttnFlag (s : State) : Prop := s.svc.attn = attnNow s

theorem attnFlag_updateAttn : AttnFlag (updateAttn s) := rfl

theorem attnFlag_answer {r : ResultCode} {item : List Byte} (flag : AttnFlag s) : AttnFlag (answer r item s) := flag

theorem attnFlag_acceptRelease : AttnFlag (acceptRelease s) := by
  simp only [acceptRelease]
  exact attnFlag_updateAttn

theorem attnFlag_reset : AttnFlag State.reset := by
  unfold AttnFlag
  decide

theorem attnFlag_windowExpiry (u : Fin 8) (flag : AttnFlag s) : AttnFlag (windowExpiry u s) := by
  unfold windowExpiry
  split
  case isTrue running =>
    have same := anyFired_mapUnit (s := s) (u := u)
      (f := fun w => { w with status := .disarmed, count := 0, window := none }) (by rw [running.1]; simp)
    simp only [AttnFlag, attnNow, same, mapUnit_sup, mapUnit_vlv, mapUnit_svc]
    exact flag
  · exact flag

/-- The requests of the service port. -/
def isRequest : Instr → Bool
  | .release | .acknowledge | .scan | .freeze | .resume | .park | .unpark | .ident | .station | .zones | .watch _ | .roster _
  | .captureInfo | .capture _ | .badRequest | .serviceRead _ => true
  | _ => false

theorem attnFlag_request {c : Instr} (request : isRequest c = true) (flag : AttnFlag s) : AttnFlag (after c s) := by
  have released {f : State → State} : AttnFlag (f s) → AttnFlag (whenReleased f s) := whenReleased_keeps flag
  cases c with
  | release =>
    simp only [after, releaseCommand]
    refine released ?_
    split
    · split
      · exact flag
      · exact attnFlag_answer attnFlag_acceptRelease
    · exact flag
  | acknowledge =>
    simp only [after, acknowledgeCommand]
    exact released (attnFlag_answer attnFlag_updateAttn)
  | scan =>
    simp only [after, scanCommand]
    refine released ?_
    split <;> exact flag
  | freeze => exact released flag
  | resume =>
    simp only [after, resumeCommand]
    refine released ?_
    split <;> exact flag
  | park =>
    simp only [after, parkCommand]
    refine released ?_
    split
    · exact attnFlag_answer attnFlag_updateAttn
    · exact flag
  | unpark =>
    simp only [after, unparkCommand]
    refine released ?_
    split
    · exact attnFlag_answer attnFlag_updateAttn
    · exact flag
  | watch index =>
    simp only [after, watchRequest]
    refine released ?_
    split <;> exact flag
  | roster index =>
    simp only [after, rosterRequest]
    refine released ?_
    split <;> exact flag
  | capture index =>
    simp only [after, captureRequest]
    refine released ?_
    split
    · split <;> exact flag
    · exact flag
  | ident | station | zones | captureInfo | badRequest | serviceRead => exact released flag
  | _ => cases request

theorem attnFlag_after (c : Instr) (flag : AttnFlag s) : AttnFlag (after c s) := by
  have line {c : Instr} (hc : isLineCommand c = true) : AttnFlag (after c s) := by
    obtain outcome | ⟨x, -, eq⟩ := after_line_outcome hc s
    · generalize after c s = t at outcome
      cases outcome with
      | line | holdoff => exact flag
    · exact eq ▸ attnFlag_updateAttn
  cases c with
  | reset => exact attnFlag_reset
  | resetRelease addr seg =>
    simp only [after, resetRelease]
    split <;> exact flag
  | loadEnd image =>
    simp only [after, loadEnd]
    split
    · exact attnFlag_updateAttn
    · exact flag
  | joinTimerExpiry =>
    simp only [after, joinTimerExpiry]
    split
    · split
      · split
        · exact attnFlag_updateAttn
        all_goals exact flag
      · exact flag
    · exact flag
  | entryStale addr =>
    simp only [after, entryStale]
    split
    · split
      · exact attnFlag_updateAttn
      · exact flag
    · exact flag
  | entryRemoval addr =>
    simp only [after, entryRemoval]
    split
    · exact attnFlag_updateAttn
    · exact flag
  | scanTimerExpiry =>
    simp only [after, scanTimerExpiry]
    split <;> exact flag
  | referencePhaseEnd ticks =>
    simp only [after, referencePhaseEnd]
    split
    · exact attnFlag_updateAttn
    · exact flag
  | referenceFault =>
    simp only [after]
    by_cases scan : s.dsu.scan = .reference
    · rw [referenceFault_scanning scan]
      exact attnFlag_updateAttn
    · rwa [referenceFault_none scan]
  | sensorPhaseEnd cycles =>
    simp only [after, sensorPhaseEnd]
    split
    · split
      · exact attnFlag_updateAttn
      · exact flag
    all_goals exact flag
  | counterOverflow =>
    simp only [after, counterOverflow]
    split
    · exact attnFlag_updateAttn
    all_goals exact flag
  | acquisitionTimerExpiry =>
    simp only [after, acquisitionTimerExpiry]
    split <;> exact flag
  | conversionEnd code =>
    simp only [after, conversionEnd]
    split
    · exact flag
    · split
      · exact flag
      · exact attnFlag_updateAttn
  | flowRisingEdge ticks =>
    simp only [after, flowRisingEdge]
    split
    · exact flag
    · split
      · exact flag
      · split <;> exact flag
  | noFlow =>
    simp only [after, noFlow]
    split <;> exact flag
  | windowExpiry u => exact attnFlag_windowExpiry u flag
  | periodStart =>
    simp only [after, periodStart]
    split <;> exact flag
  | pullInExpiry =>
    simp only [after, pullInExpiry]
    split <;> exact flag
  | strokeTimerExpiry =>
    simp only [after, strokeTimerExpiry]
    split
    · exact attnFlag_updateAttn
    all_goals exact flag
  | release | acknowledge | scan | freeze | resume | park | unpark | ident | station | zones | watch | roster | captureInfo | capture
  | badRequest | serviceRead => exact attnFlag_request rfl flag
  | _ => exact line rfl

theorem anyFired_tickState : anyFired (tickState s) = anyFired s := by
  refine anyFired_congr fun u => ?_
  show (tickWatch s.sup.mode s.wch).units[u].status = .fired ↔ _
  rw [tickWatch_units]
  split <;> exact .rfl

/-- Settles O60: every command that moves a condition of a flag or of ATTN brings it up to date, and a tick moves none. -/
theorem flagsAreKept : Obligations.FlagsAreKept := by
  unfold Obligations.FlagsAreKept
  intro s t flags
  refine step_leads (Q := FlagsSafe) (fun _ _ => id) (fun _ _ => id) (fun _ => id) (fun c s flags => ?_) (fun s flags => ?_) flags
  · obtain ⟨watch, sensor, attn⟩ := flags
    exact ⟨watchFlag_after c watch, sensorFlag_after c sensor, attnFlag_after c attn⟩
  · obtain ⟨watch, sensor, attn⟩ := flags
    refine ⟨watch.trans anyFired_tickState.symm, sensor, ?_⟩
    simp only [attnNow, anyFired_tickState]
    exact attn

end Sys2Proof.Machine
end

section
/-! PROOF. The drip sensing unit (R73 to R87): the stages of a scan as steps of the unit alone, and O54 from them. -/

namespace Sys2Proof.Machine

open Safety

variable {s t : State} {c : ConfigSet} {d : DripUnit} {strict parked : Prop}

/-! ## The unit alone -/

/-- ReadingInRange, of the configuration set alone. -/
def ReadingFits (c : ConfigSet) (z : Fin 4) (r : ZoneReading) : Prop :=
  r.zone = z ∧ c.startZone.val ≤ z.val ∧ z.val ≤ c.endZone.val ∧ r.ns ≤ 1048575 ∧ r.index ≤ 65535 ∧
  (r.state = .short → r.ns = 1048575 ∧ r.index = 65535) ∧ (r.state = .openTape → r.index < c.openThreshold) ∧
  (r.state = .normal → c.openThreshold ≤ r.index)

/-- DripSafe of the unit alone. Between a fault's count and the end of its scan the values of REFERENCE no longer are those from before
the scan: that clause is asked for only where strict. -/
structure DripState (strict : Prop) (c : ConfigSet) (parked : Prop) (d : DripUnit) : Prop where
  counter : d.scan = .idle ↔ d.counter = none
  timeBase : d.scan = .idle ↔ d.timeBase = none
  sensor : ∀ z, d.scan = .sensor z → c.startZone.val ≤ z.val ∧ z.val ≤ c.endZone.val ∧ d.tref.isSome = true
  tref : ∀ n, d.tref = some n ∨ d.trefBefore = some n → 1 ≤ n ∧ n ≤ 1048574
  before : strict → d.scan = .reference → d.tref = d.trefBefore ∧ d.refFaults = d.refFaultsBefore
  noFault : ∀ z, d.scan = .sensor z → d.refFaults = 0
  rescan : d.rescan = true → d.scan ≠ .idle
  faults : d.refFaults ≤ 255
  faultsBefore : d.refFaultsBefore ≤ 255
  off : parked → d.scan = .idle ∧ d.scanTimer = none
  readings : ∀ z : Fin 4, ∀ r, d.latest[z] = some r → ReadingFits c z r

theorem dripSafe_iff : DripSafe s ↔ DripState True s.sup.cfg (s.sup.mode = .parked) s.dsu := by
  constructor
  · rintro ⟨counter, timeBase, sensor, tref, before, noFault, rescan, faults, faultsBefore, off, readings⟩
    exact ⟨counter, timeBase, sensor, tref, fun _ => before, noFault, rescan, faults, faultsBefore, off, readings⟩
  · rintro ⟨counter, timeBase, sensor, tref, before, noFault, rescan, faults, faultsBefore, off, readings⟩
    exact ⟨counter, timeBase, sensor, tref, before trivial, noFault, rescan, faults, faultsBefore, off, readings⟩

namespace DripState

variable (unit : DripState strict c parked d)
include unit

theorem of_mode {parked' : Prop} (awake : parked' → parked) : DripState strict c parked' d :=
  { unit with off := fun now => unit.off (awake now) }

theorem with_timer (awake : ¬parked) (timer : Option Nat) : DripState strict c parked { d with scanTimer := timer } :=
  { unit with off := fun now => absurd now awake }

/-- A scan that starts notes the values held before it (R84, R87). -/
theorem beginScan (awake : ¬parked) (r : Bool) : DripState True c parked (Machine.beginScan { d with rescan := r }) where
  counter := by simp [Machine.beginScan]
  timeBase := by simp [Machine.beginScan]
  sensor := nofun
  tref n held := unit.tref n (.inl (or_self_iff.1 held))
  before _ _ := ⟨rfl, rfl⟩
  noFault := nofun
  rescan _ := nofun
  faults := unit.faults
  faultsBefore := unit.faults
  off now := absurd now awake
  readings := unit.readings

/-- A scan that ends without a rescan leaves the unit idle. -/
theorem idle (awake : ¬parked) (notRescan : d.rescan = false) :
    DripState True c parked { d with scan := .idle, counter := none, timeBase := none } where
  counter := by simp
  timeBase := by simp
  sensor := nofun
  tref := unit.tref
  before _ := nofun
  noFault := nofun
  rescan waits := absurd waits (by simp [notRescan])
  faults := unit.faults
  faultsBefore := unit.faultsBefore
  off now := absurd now awake
  readings := unit.readings

theorem triggered (awake : ¬parked) :
    DripState strict c parked (if d.scan = .idle then Machine.beginScan d else { d with rescan := true }) := by
  split
  · have started := unit.beginScan awake d.rescan
    exact { started with before := fun _ => started.before trivial }
  case isFalse scanning => exact { unit with rescan := fun _ => scanning }

theorem timerTriggered (awake : ¬parked) : DripState strict c parked (if d.scan = .idle then Machine.beginScan d else d) := by
  split
  · have started := unit.beginScan awake d.rescan
    exact { started with before := fun _ => started.before trivial }
  · exact unit

/-- A sensor phase starts with a Tref held and no fault counted (R77). -/
theorem startSensorPhase {z : Fin 4} (enabled : c.startZone.val ≤ z.val ∧ z.val ≤ c.endZone.val) (awake : ¬parked)
    (held : d.tref.isSome = true) (noFault : d.refFaults = 0) : DripState True c parked (Machine.startSensorPhase z d) := by
  obtain ⟨n, held⟩ := Option.isSome_iff_exists.1 held
  exact
    { counter := by simp [Machine.startSensorPhase]
      timeBase := by simp [Machine.startSensorPhase, held]
      sensor := by
        rintro z' ⟨⟩
        exact ⟨enabled.1, enabled.2, by simp [Machine.startSensorPhase, held]⟩
      tref := unit.tref
      before := fun _ => nofun
      noFault := fun _ _ => noFault
      rescan := fun _ => nofun
      faults := unit.faults
      faultsBefore := unit.faultsBefore
      off := fun now => absurd now awake
      readings := unit.readings }

theorem with_reading {r : ZoneReading} (fits : ReadingFits c r.zone r) :
    DripState strict c parked { d with latest := d.latest.set r.zone (some r) } :=
  { unit with
    readings := fun z r' held => by
      by_cases same : r.zone = z
      · subst same
        simp only [Fin.getElem_fin, Vector.getElem_set_self, Option.some.injEq] at held
        exact held ▸ fits
      · refine unit.readings z r' ?_
        simpa [Fin.val_ne_of_ne same] using held }

end DripState

/-! ## What keeps it -/

/-- The drip sensing unit is as DripState says, with an in-range configuration set and, where awake, outside PARKED. -/
def DripKept (strict awake : Prop) (s : State) : Prop :=
  ConfigSafe s ∧ DripState strict s.sup.cfg (s.sup.mode = .parked) s.dsu ∧ (awake → s.sup.mode ≠ .parked)

variable {awake : Prop}

theorem DripKept.of_same (cfg : t.sup.cfg = s.sup.cfg) (mode : t.sup.mode = s.sup.mode) (dsu : t.dsu = s.dsu)
    (holds : DripKept strict awake s) : DripKept strict awake t := by
  obtain ⟨config, unit, up⟩ := holds
  refine ⟨configSafe_of_cfg cfg config, ?_, ?_⟩
  · rwa [cfg, mode, dsu]
  · rwa [mode]

theorem dripKept_reeval (holds : DripKept strict awake s) : DripKept strict awake (reevalSensorFault s) := holds

theorem dripKept_iff : DripKept True False s ↔ ConfigSafe s ∧ DripSafe s := by
  simp only [DripKept, dripSafe_iff, false_imp_iff, and_true]

theorem not_parked_of_evaluating (evaluating : isEvaluating s.sup.mode = true) : s.sup.mode ≠ .parked := by
  intro parked
  rw [parked] at evaluating
  cases evaluating

theorem dripKept_modes : KeptByModes (DripKept strict awake) where
  line _ _ _ := id
  ros _ _ _ := id
  svc _ _ := id
  join s _ keeps := by
    obtain ⟨⟨⟨mode, cfg, -⟩, -⟩, -⟩ := keeps s.sup
    exact DripKept.of_same cfg mode rfl
  mode s m evaluating holds := by
    obtain ⟨config, unit, -⟩ := holds
    have up : m ≠ .parked := by
      rintro rfl
      cases evaluating
    exact ⟨config, unit.of_mode fun now => absurd now up, fun _ => up⟩
  record _ _ := id
  freeze _ _ _ _ := id
  opens s := DripKept.of_same (by simp) (by simp) (by simp)
  closes s := DripKept.of_same (by simp) (by simp) (by simp)
  starts s evaluating holds := by
    obtain ⟨config, unit, up⟩ := holds
    exact ⟨config, unit.with_timer (not_parked_of_evaluating evaluating) _, up⟩
  triggers s evaluating holds := by
    obtain ⟨config, unit, up⟩ := holds
    exact ⟨config, unit.triggered (not_parked_of_evaluating evaluating), up⟩

theorem dripKept_moves : KeptByMoves (DripKept strict awake) where
  toKeptByModes := dripKept_modes
  toKeptByWatch := dripKept_modes.byWatch (fun _ _ => id) fun _ _ => id

/-! ## The end of a scan -/

theorem DripKept.asleep (holds : DripKept strict awake s) : DripKept strict False s := ⟨holds.1, holds.2.1, nofun⟩

theorem dripKept_endScan (holds : DripKept strict True s) : DripKept True True (endScan s) := by
  obtain ⟨config, unit, up⟩ := holds
  have ended : DripKept True True (s.mapDsu fun d =>
      if d.rescan then beginScan { d with rescan := false } else { d with scan := .idle, counter := none, timeBase := none }) := by
    refine ⟨config, ?_, up⟩
    rw [State.mapDsu_dsu]
    split
    · exact unit.beginScan (up trivial) false
    case isFalse notRescan => exact unit.idle (up trivial) (by simpa using notRescan)
  simp only [endScan]
  split
  case isTrue joining =>
    refine dripKept_modes.starts _ ?_ ended
    rw [joining]
    rfl
  · exact ended

theorem dripKept_joinFault (holds : DripKept strict awake s) : DripKept strict awake (joinFault s) := by
  have degraded : DripKept strict awake
      (s.mapSup fun p => { p with joinFaults := p.joinFaults + 1, joinDegrade := true }) := holds
  simp only [joinFault]
  split
  · exact holds
  · split
    · exact dripKept_modes.enterIsolated (dripKept_modes.failDryCheck degraded)
    · exact dripKept_modes.passDryCheck degraded

theorem DripKept.awake_of_scanning (holds : DripKept strict awake s) (scanning : s.dsu.scan ≠ .idle) : DripKept strict True s := by
  obtain ⟨config, unit, -⟩ := holds
  exact ⟨config, unit, fun _ parked => scanning (unit.off parked).1⟩

theorem dripKept_faultTold (holds : DripKept True False s) (scan : s.dsu.scan = .reference) : DripKept False True (faultTold s) := by
  obtain ⟨config, unit, up⟩ := holds.awake_of_scanning (by simp [scan])
  have counted : DripKept False True (handEvent .refFault (s.mapDsu fun d => { d with refFaults := min (d.refFaults + 1) 255 })) :=
    ⟨config,
      { unit with
        before := nofun
        noFault := fun z sensor => absurd (scan.symm.trans sensor) nofun
        faults := min_le_right _ _ },
      up⟩
  simp only [faultTold]
  split
  · exact (dripKept_joinFault counted).of_same (by simp) (by simp) (by simp)
  · exact counted

theorem dripKept_referenceFault (holds : DripKept True False s) : DripKept True False (referenceFault s) := by
  by_cases scan : s.dsu.scan = .reference
  · have ended := dripKept_endScan (dripKept_faultTold holds scan)
    rw [referenceFault_scanning scan]
    refine dripKept_modes.updateAttn ?_
    split
    case isTrue again =>
      have waits := (Bool.and_eq_true_iff.1 again).2
      exact dripKept_modes.triggers _ (by rw [(of_decide_eq_true waits).1]; rfl) ended.asleep
    · exact ended.asleep
  · rwa [referenceFault_none scan]

/-! ## The readings -/

theorem readingFits_counted {z : Fin 4} {ns : Nat} (enabled : s.sup.cfg.startZone.val ≤ z.val ∧ z.val ≤ s.sup.cfg.endZone.val)
    (bounded : ns ≤ 1048575) : ReadingFits s.sup.cfg z (countedReading s z ns) := by
  have state : (countedReading s z ns).state =
      if conductanceIndex ns s.sup.cfg.mCycles < s.sup.cfg.openThreshold then .openTape else .normal := rfl
  refine ⟨rfl, enabled.1, enabled.2, bounded, min_le_right _ _, fun short => ?_, fun opened => ?_, fun normal => ?_⟩
  · rw [state] at short
    split at short <;> cases short
  · rw [state] at opened
    split at opened
    · assumption
    · cases opened
  · rw [state] at normal
    split at normal
    · cases normal
    · exact Nat.le_of_not_lt ‹_›

theorem readingFits_short {z : Fin 4} (enabled : s.sup.cfg.startZone.val ≤ z.val ∧ z.val ≤ s.sup.cfg.endZone.val) :
    ReadingFits s.sup.cfg z (shortReading s z) :=
  ⟨rfl, enabled.1, enabled.2, le_rfl, le_rfl, fun _ => ⟨rfl, rfl⟩, nofun, nofun⟩

/-- After the delivery of a zone's reading the scan stands where it was (R82). -/
theorem deliverReading_dsu (r : ZoneReading) :
    (deliverReading r s).dsu =
      { s.dsu with latest := s.dsu.latest.set r.zone (some r), scanTimer := (deliverReading r s).dsu.scanTimer } := by
  simp only [deliverReading, reevalSensorFault_dsu]
  exact deliverSample_dsu _ _ _

theorem dripKept_deliverReading {r : ZoneReading} (fits : ReadingFits s.sup.cfg r.zone r) (holds : DripKept strict awake s) :
    DripKept strict awake (deliverReading r s) := by
  obtain ⟨config, unit, up⟩ := holds
  have noted : DripKept strict awake (s.mapDsu fun d => { d with latest := d.latest.set r.zone (some r) }) :=
    ⟨config, unit.with_reading fits, up⟩
  exact dripKept_reeval (dripKept_moves.sample _ _ _ nofun (dripKept_moves.record _ _ noted))

/-- A reading delivered in the phase of its zone, and what follows it: the next phase, or the end of the scan (R77, R83). -/
theorem dripKept_phaseEnds {z : Fin 4} {r : ZoneReading} (scan : s.dsu.scan = .sensor z) (zone : r.zone = z)
    (fits : ReadingFits s.sup.cfg z r) (holds : DripKept True False s) :
    DripKept True False (updateAttn (afterSensorPhase z (deliverReading r s))) := by
  have before : DripState True s.sup.cfg (s.sup.mode = .parked) s.dsu := holds.2.1
  obtain ⟨first, -, held⟩ := before.sensor z scan
  have delivered : DripKept True True (deliverReading r s) :=
    dripKept_deliverReading (zone ▸ fits) (holds.awake_of_scanning (by simp [scan]))
  refine dripKept_modes.updateAttn ?_
  unfold afterSensorPhase
  split
  case isTrue below =>
    obtain ⟨config, unit, up⟩ := delivered
    have dsu := deliverReading_dsu (s := s) r
    have next : (z + 1 : Fin 4).val = z.val + 1 := by
      have : (deliverReading r s).sup.cfg.endZone.val < 4 := Fin.is_lt _
      exact Fin.val_add_one_of_lt' (by omega)
    have held' : (deliverReading r s).dsu.tref.isSome = true := by rw [dsu]; exact held
    have noFault : (deliverReading r s).dsu.refFaults = 0 := by rw [dsu]; exact before.noFault z scan
    refine ⟨config, unit.startSensorPhase (z := z + 1) ⟨?_, ?_⟩ (up trivial) held' noFault, nofun⟩
    · rw [deliverReading_cfg]
      omega
    · omega
  · unfold completeScan
    refine (dripKept_endScan (strict := True) ?_).asleep
    split
    · exact dripKept_moves.resolveDryCheck delivered
    · exact delivered

/-! ## Every command -/

theorem dripState_reset {parked : Prop} : DripState True c parked State.reset.dsu where
  counter := iff_of_true rfl rfl
  timeBase := iff_of_true rfl rfl
  sensor := nofun
  tref _ held := absurd (or_self_iff.1 held) nofun
  before _ := nofun
  noFault := nofun
  rescan := nofun
  faults := Nat.zero_le _
  faultsBefore := Nat.zero_le _
  off _ := ⟨rfl, rfl⟩
  readings z r held := by
    fin_cases z <;> cases held

theorem dripKept_referencePhaseEnd (ticks : Nat) (holds : DripKept True False s) : DripKept True False (referencePhaseEnd ticks s) := by
  simp only [referencePhaseEnd]
  split
  case isTrue ends =>
    obtain ⟨scan, least, most⟩ := ends
    obtain ⟨config, unit, up⟩ := holds.awake_of_scanning (by simp [scan])
    have held : DripState False s.sup.cfg (s.sup.mode = .parked)
        { s.dsu with tref := some (s.dsu.timeBase.getD 0 + ticks), refFaults := 0 } :=
      { unit with
        sensor := fun z sensor => absurd (scan.symm.trans sensor) nofun
        tref := by
          rintro n (⟨⟨⟩⟩ | earlier)
          · omega
          · exact unit.tref n (.inr earlier)
        before := nofun
        noFault := fun _ _ => rfl
        faults := Nat.zero_le _ }
    obtain ⟨-, -, -, -, -, -, -, -, -, -, -, -, -, -, -, -, -, -, -, -, -, -, -, -, -, zones, -⟩ := config
    exact ⟨holds.1, held.startSensorPhase ⟨le_rfl, zones⟩ (up trivial) rfl rfl, nofun⟩
  · exact holds

theorem dripKept_scanTimerExpiry (holds : DripKept True False s) : DripKept True False (scanTimerExpiry s) := by
  obtain ⟨config, unit, -⟩ := holds
  unfold scanTimerExpiry
  split
  case h_1 running =>
    have up : s.sup.mode ≠ .parked := fun parked => absurd (running.symm.trans (unit.off parked).2) nofun
    exact ⟨config, (unit.with_timer up _).timerTriggered up, nofun⟩
  · exact ⟨config, unit, nofun⟩

/-- An aborted scan leaves the unit idle with its timer stopped (R87). -/
theorem DripState.aborted {parked' : Prop} (unit : DripState True c parked d) :
    DripState True c parked'
      { restoreBefore d with scan := .idle, rescan := false, scanTimer := none, counter := none, timeBase := none } where
  counter := by simp
  timeBase := by simp
  sensor := nofun
  tref n held := by
    unfold restoreBefore at held
    split at held
    · exact unit.tref n held
    · exact unit.tref n (.inr (or_self_iff.1 held))
  before _ := nofun
  noFault := nofun
  rescan := nofun
  faults := by
    unfold restoreBefore
    split
    · exact unit.faults
    · exact unit.faultsBefore
  faultsBefore := by
    unfold restoreBefore
    split <;> exact unit.faultsBefore
  off _ := ⟨rfl, rfl⟩
  readings z r held := by
    unfold restoreBefore at held
    split at held <;> exact unit.readings z r held

theorem dripKept_acceptPark (holds : DripKept True False s) : DripKept True False (acceptPark s) := by
  obtain ⟨config, unit, -⟩ := holds
  have parked : DripState True s.sup.cfg False { s.dsu with scanTimer := none } := { unit with off := nofun }
  have dsu : (acceptPark s).dsu =
      { restoreBefore { s.dsu with scanTimer := none } with
        scan := .idle, rescan := false, scanTimer := none, counter := none, timeBase := none } := by
    simp [acceptPark, changeMode_dsu, isSending]
  have cfg : (acceptPark s).sup.cfg = s.sup.cfg := by simp [acceptPark]
  refine ⟨configSafe_of_cfg cfg config, ?_, nofun⟩
  rw [dsu, cfg]
  exact parked.aborted

theorem dripKept_after (c : Instr) (starting : StartingSafe s) (holds : DripKept True False s) : DripKept True False (after c s) := by
  cases c with
  | reset => exact ⟨configInRange_default, dripState_reset, nofun⟩
  | resetRelease addr seg =>
    simp only [after, resetRelease]
    split <;> exact holds
  | loadEnd image =>
    simp only [after, loadEnd]
    split
    case isTrue loading =>
      obtain ⟨mode, -, -, asReset⟩ := starting
      obtain ⟨-, -, -, -, dsu, -⟩ := asReset (mode.2 (.inr loading))
      have installed : DripKept True False (endStarting (installConfig (loadImage image) s)) := by
        refine ⟨configInRange_loadImage image, ?_, nofun⟩
        have same : (endStarting (installConfig (loadImage image) s)).dsu = State.reset.dsu := dsu
        rw [same]
        exact dripState_reset
      exact dripKept_modes.updateAttn (dripKept_modes.enterJoining installed)
    · exact holds
  | conversionEnd code =>
    simp only [after, conversionEnd]
    split
    · exact holds
    · split
      · exact holds
      · refine dripKept_modes.updateAttn (dripKept_moves.deliverSet _ (fun s m hs => ?_) (fun s m hs => ?_) (dripKept_reeval holds))
        · exact hs.of_same (by simp) (by simp) (by simp)
        · exact hs.of_same (by simp) (by simp) (by simp)
  | periodStart =>
    simp only [after, periodStart]
    split <;> exact holds
  | pullInExpiry =>
    simp only [after, pullInExpiry]
    split <;> exact holds
  | strokeTimerExpiry =>
    simp only [after, strokeTimerExpiry]
    split
    · refine dripKept_modes.updateAttn ?_
      split <;> exact holds.of_same (by simp) (by simp) (by simp)
    all_goals exact holds
  | freeze => exact whenReleased_keeps holds holds
  | resume =>
    simp only [after, resumeCommand]
    refine whenReleased_keeps holds ?_
    split <;> exact holds
  | park =>
    simp only [after, parkCommand]
    refine whenReleased_keeps holds ?_
    split
    · exact dripKept_modes.svc _ _ (dripKept_acceptPark holds)
    · exact holds
  | scanTimerExpiry => exact dripKept_scanTimerExpiry holds
  | referencePhaseEnd ticks => exact dripKept_referencePhaseEnd ticks holds
  | referenceFault => exact dripKept_referenceFault holds
  | sensorPhaseEnd cycles =>
    simp only [after, sensorPhaseEnd]
    split
    case h_1 z scan =>
      obtain ⟨first, last, -⟩ := holds.2.1.sensor z scan
      split
      case isTrue bounded => exact dripKept_phaseEnds scan rfl (readingFits_counted ⟨first, last⟩ bounded) holds
      · exact holds
    all_goals exact holds
  | counterOverflow =>
    simp only [after, counterOverflow]
    split
    case h_1 z scan =>
      obtain ⟨first, last, -⟩ := holds.2.1.sensor z scan
      exact dripKept_phaseEnds scan rfl (readingFits_short ⟨first, last⟩) holds
    all_goals exact holds
  | acquisitionTimerExpiry =>
    simp only [after, acquisitionTimerExpiry]
    split <;> exact holds
  | flowRisingEdge ticks =>
    simp only [after, flowRisingEdge]
    split
    · exact holds
    · split
      · exact holds
      · split <;> exact holds
  | noFlow =>
    simp only [after, noFlow]
    split <;> exact holds
  | _ => exact dripKept_moves.after rfl holds

theorem dripState_tickDrip {parked : Prop} (unit : DripState True c parked d) : DripState True c parked (tickDrip d) where
  counter := unit.counter
  timeBase := by
    have runs := unit.timeBase
    unfold tickDrip tickUp tickDown
    cases scan : d.scan <;> simp_all
  sensor := unit.sensor
  tref := unit.tref
  before := unit.before
  noFault := unit.noFault
  rescan := unit.rescan
  faults := unit.faults
  faultsBefore := unit.faultsBefore
  off now := by
    obtain ⟨idle, stopped⟩ := unit.off now
    exact ⟨idle, by simp [tickDrip, tickDown, stopped]⟩
  readings := unit.readings

/-- Settles O54: each stage of a scan leaves the unit as chapter 5 states, and what comes between the stages moves its scan timer only. -/
theorem dripSensingIsKept : Obligations.DripSensingIsKept := by
  unfold Obligations.DripSensingIsKept
  intro s t starting config safe
  exact step_leads (Q := fun s => StartingSafe s ∧ DripKept True False s) (fun _ _ => id) (fun _ _ => id) (fun _ q => (dripKept_iff.1 q.2).2)
    (fun c _ q => (dripKept_iff.1 (dripKept_after c q.1 q.2)).2) (fun _ q => dripSafe_iff.2 (dripState_tickDrip q.2.2.1))
    ⟨starting, dripKept_iff.2 ⟨config, safe⟩⟩

end Sys2Proof.Machine
end

section
/-! PROOF. Events whose condition the state does not give: each of them leaves the state as it is. O1 and O8 from the commands. -/

namespace Sys2Proof.Machine

open Safety

variable {s t : State}

/-- Settles O1: a step takes the front of a queue that is not empty. -/
theorem stepRunsTheFrontCommand : Obligations.StepRunsTheFrontCommand := by
  unfold Obligations.StepRunsTheFrontCommand
  intro c rest s
  rfl

/-! ## Stopped timers and idle blocks -/

theorem joinTimerExpiry_of_stopped (stopped : s.sup.joinTimer = none) : joinTimerExpiry s = s := by
  simp only [joinTimerExpiry, stopped]

theorem announceTimerExpiry_of_stopped (stopped : s.lnk.announce = none) : announceTimerExpiry s = s := by
  simp only [announceTimerExpiry, stopped]

theorem holdoffExpiry_of_stopped (stopped : s.lnk.holdoff = none) : holdoffExpiry s = s := by
  simp only [holdoffExpiry, stopped]

theorem scanTimerExpiry_of_stopped (stopped : s.dsu.scanTimer = none) : scanTimerExpiry s = s := by
  simp only [scanTimerExpiry, stopped]

theorem acquisitionTimerExpiry_of_stopped (stopped : s.msu.acqTimer = none) : acquisitionTimerExpiry s = s := by
  simp only [acquisitionTimerExpiry, stopped]

theorem windowExpiry_of_stopped {u : Fin 8} (stopped : s.wch.units[u].window = none) : windowExpiry u s = s :=
  if_neg fun running => by
    rw [stopped] at running
    exact absurd running.2.1 nofun

theorem pullInExpiry_of_not_opening (other : s.vlv.valve ≠ .opening) : pullInExpiry s = s := by
  unfold pullInExpiry
  split
  case h_1 opening => exact absurd opening other
  all_goals rfl

theorem strokeTimerExpiry_of_not_closing (other : s.vlv.valve ≠ .closing) : strokeTimerExpiry s = s := by
  unfold strokeTimerExpiry
  split
  case h_1 closing => exact absurd closing other
  all_goals rfl

theorem loadEnd_of_loaded (image : List Byte) (loaded : s.sup.loading = false) : loadEnd image s = s :=
  if_neg (by simp [loaded])

theorem entryStale_of_unknown {a : Address} (unknown : findEntry a s.ros.entries = none) : entryStale a s = s := by
  simp only [entryStale, unknown]

theorem entryRemoval_of_unknown {a : Address} (unknown : findEntry a s.ros.entries = none) : entryRemoval a s = s := by
  simp only [entryRemoval, unknown]

theorem referencePhaseEnd_of_other (ticks : Nat) (other : s.dsu.scan ≠ .reference) : referencePhaseEnd ticks s = s :=
  if_neg fun ends => other ends.1

theorem sensorPhaseEnd_of_other (cycles : Nat) (other : ∀ z, s.dsu.scan ≠ .sensor z) : sensorPhaseEnd cycles s = s := by
  unfold sensorPhaseEnd
  split
  case h_1 z scan => exact absurd scan (other z)
  all_goals rfl

theorem counterOverflow_of_other (other : ∀ z, s.dsu.scan ≠ .sensor z) : counterOverflow s = s := by
  unfold counterOverflow
  split
  case h_1 z scan => exact absurd scan (other z)
  all_goals rfl

theorem conversionEnd_of_idle (code : BitVec 12) (idle : s.msu.adc = .idle) : conversionEnd code s = s := by
  simp only [conversionEnd, idle]

theorem noFlow_of_awaitFirst (waits : s.msu.edge = .awaitFirst) : noFlow s = s := by
  simp only [noFlow, waits]

/-! ## The row line -/

theorem fallingEdge_of_low (held : Nat) (low : s.rli.lineLow = true) (old : ¬OwnEdgeYoung s) : fallingEdge held s = s := by
  have younger : ownEdgeYounger (filterDelay s.sup.cfg) s.rli = false := by
    rwa [Bool.eq_false_iff, ne_eq, ownEdgeYounger_iff]
  simp [fallingEdge, low, younger]

theorem risingEdge_of_high (held : Nat) (high : s.rli.lineLow = false) : risingEdge held s = s := by
  simp [risingEdge, high]

theorem attemptStart_of_none (none : s.rli.rx ≠ .idle ∨ standingOffer s = none) : attemptStart s = s := by
  unfold attemptStart
  split
  case isTrue idle =>
    obtain busy | noOffer := none
    · exact absurd idle busy
    · rw [noOffer]
  · rfl

theorem quietReached_of_other (moving : s.rli.rx ≠ .seekQuiet) (free : s.rli.rx ≠ .stuck) : quietReached s = s := by
  simp only [quietReached]
  split
  case h_1 rx => exact absurd rx moving
  case h_2 rx => exact absurd rx free
  all_goals rfl

theorem lineStuck_of_other (other : s.rli.tx.isSome = true ∨ s.rli.rx = .off ∨ s.rli.rx = .stuck) : lineStuck s = s := by
  simp only [lineStuck]
  split
  · rfl
  case isFalse silent =>
    obtain sends | off | stuck := other
    · exact absurd sends silent
    · rw [off]
    · rw [stuck]

theorem receivingFrame_of_other (other : s.rli.tx.isSome = true ∨ s.rli.rx ≠ .inFrame) : receivingFrame s = false := by
  obtain sends | outside := other
  · simp [receivingFrame, sends]
  · simp [receivingFrame, outside]

theorem gapTimeout_of_other (other : receivingFrame s = false) : gapTimeout s = s := by simp [gapTimeout, other]

theorem frameError_of_other (cell : FramingCell) (other : receivingFrame s = false) : frameError cell s = s := by
  simp [frameError, other]

theorem lengthError_of_other (len : BitVec 4) (other : receivingFrame s = false) : lengthError len s = s := by
  simp [lengthError, other]

theorem lostArbitration_of_other (n : Fin 16) (other : s.rli.tx = none ∨ s.rli.rx ≠ .inFrame) : lostArbitration n s = s := by
  unfold lostArbitration
  split
  case h_1 rx tx => simp [rx, tx] at other
  · rfl

theorem bitError_of_other (sampled : Bool) (other : s.rli.tx = none ∨ s.rli.rx ≠ .inFrame) : bitError sampled s = s := by
  unfold bitError
  split
  case h_1 rx tx => simp [rx, tx] at other
  · rfl

theorem transmitCellEdge_of_other (other : s.rli.tx = none ∨ s.rli.rx ≠ .inFrame) : transmitCellEdge s = s := by
  unfold transmitCellEdge
  split
  case h_1 rx tx cell => simp [rx, tx] at other
  · rfl

theorem cellSamplePoint_of_outside (outside : s.rli.rx ≠ .inFrame) : cellSamplePoint s = s := by
  unfold cellSamplePoint
  split
  case h_1 rx cell => exact absurd rx outside
  · rfl

theorem goodFrame_of_outside (bytes : List Byte) (outside : s.rli.rx ≠ .inFrame) : goodFrame bytes s = s := by
  simp [goodFrame, frameAdmitted, outside]

/-! ## The service port under RESET -/

theorem whenReleased_of_held (f : State → State) (held : s.clk.held = true) : whenReleased f s = s := by
  simp [whenReleased, held]

/-- A request runs while RESET is high. -/
theorem after_request {c : Instr} (request : isRequest c = true) : ∃ f, after c = whenReleased f := by
  cases c with
  | release => exact ⟨_, releaseCommand.eq_def⟩
  | acknowledge => exact ⟨_, acknowledgeCommand.eq_def⟩
  | scan => exact ⟨_, scanCommand.eq_def⟩
  | freeze => exact ⟨_, freezeCommand.eq_def⟩
  | resume => exact ⟨_, resumeCommand.eq_def⟩
  | park => exact ⟨_, parkCommand.eq_def⟩
  | unpark => exact ⟨_, unparkCommand.eq_def⟩
  | ident => exact ⟨_, identRequest.eq_def⟩
  | station => exact ⟨_, stationRequest.eq_def⟩
  | zones => exact ⟨_, zonesRequest.eq_def⟩
  | watch index => exact ⟨_, watchRequest.eq_def index⟩
  | roster index => exact ⟨_, rosterRequest.eq_def index⟩
  | captureInfo => exact ⟨_, captureInfoRequest.eq_def⟩
  | capture index => exact ⟨_, captureRequest.eq_def index⟩
  | badRequest => exact ⟨_, badRequestWrite.eq_def⟩
  | serviceRead n => exact ⟨_, serviceRead.eq_def n⟩
  | _ => cases request

theorem after_request_of_held {c : Instr} (request : isRequest c = true) (held : s.clk.held = true) : after c s = s := by
  obtain ⟨f, eq⟩ := after_request request
  rw [eq]
  exact whenReleased_of_held f held

/-- Settles O8: event by event, the branch that each takes without its condition. -/
theorem eventsWithoutTheirConditionChangeNothing : Obligations.EventsWithoutTheirConditionChangeNothing := by
  unfold Obligations.EventsWithoutTheirConditionChangeNothing
  intro s c noEvent
  rw [exec_eq_after]
  refine congrArg Host.Outcome.next ?_
  rcases noEvent with ⟨off, rfl⟩ | ⟨off, rfl⟩ | ⟨off, rfl⟩ | ⟨off, rfl⟩ | ⟨off, rfl⟩ | ⟨u, off, rfl⟩ | ⟨off, rfl⟩ | ⟨off, rfl⟩ |
    ⟨off, image, rfl⟩ | ⟨low, old, held, edge⟩ | ⟨high, held, rfl⟩ | ⟨none, rfl⟩ | ⟨moving, free, rfl⟩ | ⟨other, rfl⟩ |
    ⟨other, errors⟩ | ⟨other, ends⟩ | ⟨outside, ends⟩ | ⟨a, unknown, ages⟩ | ⟨other, phases⟩ | ⟨other, phases⟩ | ⟨idle, code, rfl⟩ |
    ⟨waits, rfl⟩ | ⟨held, request⟩
  · exact joinTimerExpiry_of_stopped off
  · exact announceTimerExpiry_of_stopped off
  · exact holdoffExpiry_of_stopped off
  · exact scanTimerExpiry_of_stopped off
  · exact acquisitionTimerExpiry_of_stopped off
  · exact windowExpiry_of_stopped off
  · exact pullInExpiry_of_not_opening off
  · exact strokeTimerExpiry_of_not_closing off
  · exact loadEnd_of_loaded image off
  · obtain rfl | rfl := edge
    all_goals exact fallingEdge_of_low held low old
  · exact risingEdge_of_high held high
  · exact attemptStart_of_none none
  · exact quietReached_of_other moving free
  · exact lineStuck_of_other other
  · obtain ⟨cell, rfl⟩ | ⟨len, rfl⟩ | rfl := errors
    · exact frameError_of_other cell (receivingFrame_of_other other)
    · exact lengthError_of_other len (receivingFrame_of_other other)
    · exact gapTimeout_of_other (receivingFrame_of_other other)
  · obtain ⟨n, rfl⟩ | ⟨b, rfl⟩ | rfl := ends
    · exact lostArbitration_of_other n other
    · exact bitError_of_other b other
    · exact transmitCellEdge_of_other other
  · obtain rfl | ⟨bytes, rfl⟩ := ends
    · exact cellSamplePoint_of_outside outside
    · exact goodFrame_of_outside bytes outside
  · obtain rfl | rfl := ages
    · exact entryStale_of_unknown unknown
    · exact entryRemoval_of_unknown unknown
  · obtain rfl | ⟨n, rfl⟩ := phases
    · exact referenceFault_none other
    · exact referencePhaseEnd_of_other n other
  · obtain rfl | ⟨n, rfl⟩ := phases
    · exact counterOverflow_of_other other
    · exact sensorPhaseEnd_of_other n other
  · exact conversionEnd_of_idle code idle
  · exact noFlow_of_awaitFirst waits
  · refine after_request_of_held ?_ held
    obtain rfl | rfl | rfl | ⟨i, rfl | rfl | rfl⟩ | rfl | rfl | rfl | rfl | rfl | rfl | rfl | rfl | rfl | ⟨n, rfl⟩ := request
    all_goals rfl

end Sys2Proof.Machine
end

section
/-! PROOF. STARTING (R1, R6): after the load no command leads back into it but RESET, in it no command but RESET_RELEASE and LOAD_END
changes more than the line's level, the capture's freeze and the answer, and O50 from both. -/

namespace Sys2Proof.Machine

open Safety

variable {s t : State}

theorem tickClock_held (c : Clock) : (tickClock c).held = c.held := by
  unfold tickClock
  split <;> rfl

/-! ## After the load -/

/-- RESET is high, the load has ended, the straps have values, and the station is out of STARTING. -/
def Started (s : State) : Prop :=
  s.clk.held = false ∧ s.sup.loading = false ∧ s.sup.mode ≠ .starting ∧ s.sup.ownAddr.isSome = true ∧ s.sup.ownSeg.isSome = true

theorem Started.safe (started : Started s) : StartingSafe s := by
  obtain ⟨released, loaded, mode, addr, seg⟩ := started
  refine ⟨iff_of_false mode ?_, fun held => ?_, fun _ => ⟨addr, seg⟩, fun starting => absurd starting mode⟩
  · simp [released, loaded]
  · simp [released] at held

theorem started_of_safe (safe : StartingSafe s) (mode : s.sup.mode ≠ .starting) : Started s := by
  obtain ⟨iff, -, straps, -⟩ := safe
  have neither : ¬(s.clk.held = true ∨ s.sup.loading = true) := mt iff.2 mode
  have released : s.clk.held = false := Bool.eq_false_iff.2 fun held => neither (.inl held)
  obtain ⟨addr, seg⟩ := straps released
  exact ⟨released, Bool.eq_false_iff.2 fun loads => neither (.inr loads), mode, addr, seg⟩

theorem started_core : KeptBlindCore Started where
  line _ _ _ := id
  ros _ _ _ := id
  dsu _ _ := id
  msu _ _ := id
  svc _ _ := id
  vlv _ _ := id
  shr _ _ := id
  station s f keeps started := by
    obtain ⟨⟨mode, -, addr, seg, loading⟩, -⟩ := keeps s.sup
    simpa only [Started, State.mapSup_sup, State.mapSup_clk, mode, addr, seg, loading] using started
  mode s m other started := by
    obtain ⟨released, loaded, -, addr, seg⟩ := started
    exact ⟨released, loaded, other, addr, seg⟩
  record _ _ := id
  freeze _ _ _ _ := id

theorem started_blind : KeptBlind Started := started_core.toBlind (fun _ _ => id) fun _ _ => id

theorem startingSafe_reset (low : Bool) (q : List Instr) :
    StartingSafe { State.reset with rli := { State.reset.rli with lineLow := low }, pending := q } :=
  ⟨iff_of_true rfl (.inl rfl), fun _ => ⟨rfl, rfl, rfl⟩, nofun,
    fun _ => ⟨rfl, rfl, rfl, rfl, rfl, rfl, rfl, rfl, rfl, rfl, rfl, rfl⟩⟩

theorem startingSafe_after_started (c : Instr) (started : Started s) : StartingSafe (after c s) := by
  cases c with
  | reset => exact startingSafe_reset _ _
  | resetRelease addr seg =>
    rw [after, resetRelease, if_neg (by simp [started.1])]
    exact started.safe
  | loadEnd image =>
    rw [after, loadEnd_of_loaded image started.2.1]
    exact started.safe
  | freeze => exact (whenReleased_keeps started started : Started _).safe
  | resume =>
    refine Started.safe ?_
    simp only [after, resumeCommand]
    refine whenReleased_keeps started ?_
    split <;> exact started
  | _ =>
    refine (started_blind.after (fun s m hs => ?_) rfl started).safe
    simpa only [Started, processedSet_sup, processedSet_clk] using hs

/-! ## In STARTING -/

/-- STARTING with every block as reset left it. -/
structure InStarting (s : State) : Prop where
  runs : s.clk.held = true ∨ s.sup.loading = true
  underReset : s.clk.held = true → s.sup.loading = false ∧ s.sup.ownAddr = none ∧ s.sup.ownSeg = none
  straps : s.clk.held = false → s.sup.ownAddr.isSome = true ∧ s.sup.ownSeg.isSome = true
  sup : s.sup = { State.reset.sup with ownAddr := s.sup.ownAddr, ownSeg := s.sup.ownSeg, loading := s.sup.loading }
  rli : s.rli = { State.reset.rli with lineLow := s.rli.lineLow }
  lnk : s.lnk = State.reset.lnk
  ros : s.ros = State.reset.ros
  dsu : s.dsu = State.reset.dsu
  msu : s.msu = State.reset.msu
  wch : s.wch = State.reset.wch
  shr : s.shr = State.reset.shr
  vlv : s.vlv = State.reset.vlv
  ring : s.cap.ring = []
  count : s.cap.count = 0
  attn : s.svc.attn = false

theorem inStarting_of_safe (safe : StartingSafe s) (mode : s.sup.mode = .starting) : InStarting s := by
  obtain ⟨iff, underReset, straps, asReset⟩ := safe
  obtain ⟨sup, rli, lnk, ros, dsu, msu, wch, shr, vlv, ring, count, attn⟩ := asReset mode
  exact ⟨iff.1 mode, underReset, straps, sup, rli, lnk, ros, dsu, msu, wch, shr, vlv, ring, count, attn⟩

namespace InStarting

variable (asReset : InStarting s)
include asReset

theorem mode : s.sup.mode = .starting := congrArg Supervisor.mode asReset.sup

theorem safe : StartingSafe s :=
  ⟨iff_of_true asReset.mode asReset.runs, asReset.underReset, asReset.straps, fun _ =>
    ⟨asReset.sup, asReset.rli, asReset.lnk, asReset.ros, asReset.dsu, asReset.msu, asReset.wch, asReset.shr, asReset.vlv, asReset.ring,
      asReset.count, asReset.attn⟩⟩

/-- What may change without the straps: the line's level, the capture's freeze, the answer. -/
theorem with_port (low : Bool) {cap : Capture} {svc : Service} (ring : cap.ring = []) (count : cap.count = 0) (attn : svc.attn = false) :
    InStarting { s with rli := { s.rli with lineLow := low }, cap := cap, svc := svc } :=
  { asReset with
    rli := congrArg (fun r : RowLine => { r with lineLow := low }) asReset.rli
    ring := ring
    count := count
    attn := attn }

theorem with_level (low : Bool) : InStarting (s.mapRli fun r => { r with lineLow := low }) :=
  asReset.with_port low asReset.ring asReset.count asReset.attn

theorem with_svc (f : Service → Service) (attn : (f s.svc).attn = false) : InStarting (s.mapSvc f) :=
  asReset.with_port s.rli.lineLow asReset.ring asReset.count attn

theorem rx : s.rli.rx = .off := congrArg RowLine.rx asReset.rli

theorem fallingEdge (held : Nat) : InStarting (fallingEdge held s) := by
  simp only [Machine.fallingEdge]
  split
  · exact asReset
  · simp only [asReset.rx]
    exact asReset.with_level true

theorem risingEdge (held : Nat) : InStarting (risingEdge held s) := by
  have still (ago : Nat) : takeRise ago s.rli = { s.rli with lineLow := false } := by
    rw [asReset.rli]
    rfl
  simp only [Machine.risingEdge]
  split
  · exact asReset
  · show InStarting { s with rli := takeRise _ s.rli }
    rw [still]
    exact asReset.with_level false

theorem driveRelease : InStarting (driveRelease s) := by
  have same : { s.rli with driver := none } = s.rli := by
    rw [asReset.rli]
    rfl
  show InStarting { s with rli := { s.rli with driver := none } }
  rw [same]
  exact asReset

theorem unit_status (u : Fin 8) : s.wch.units[u].status ≠ .fired ∧ s.wch.units[u].window = none := by
  have units : s.wch.units[u] = freshUnit defaultConfig.units[u] := by
    rw [asReset.wch]
    exact freshWatch_units defaultConfig u
  rw [units]
  refine ⟨?_, rfl⟩
  simp only [freshUnit]
  split <;> exact nofun

theorem leaveFiredWhere (returns : Action → Bool) : leaveFiredWhere returns s = s := by
  refine List.foldl_fixed' (fun u => if_neg ?_) allUnits
  simp [isFired, (asReset.unit_status u).1, -Fin.getElem_fin]

theorem attnNow : attnNow s = false := by
  have none : anyFired s = false := by
    rw [Bool.eq_false_iff, ne_eq, anyFired_iff]
    exact fun ⟨u, fired⟩ => (asReset.unit_status u).1 fired
  have fault : s.sup.sensorFault = false := congrArg Supervisor.sensorFault asReset.sup
  have stroke : s.vlv.strokeFault = false := congrArg Valve.strokeFault asReset.vlv
  simp [Machine.attnNow, none, fault, stroke, asReset.mode]

theorem requestFreeze (r : FreezeReason) (u : Option (Fin 8)) : InStarting (requestFreeze r u s) := by
  cases frozen : s.cap.frozen
  · rw [requestFreeze_of_running frozen]
    exact asReset.with_port s.rli.lineLow asReset.ring asReset.count asReset.attn
  · rwa [requestFreeze_of_frozen frozen]

theorem request {c : Instr} (request : isRequest c = true) : InStarting (after c s) := by
  have answered (r : ResultCode) (item : List Byte) {t : State} (ht : InStarting t) : InStarting (answer r item t) :=
    ht.with_svc _ ht.attn
  have released {f : State → State} : InStarting (f s) → InStarting (whenReleased f s) := whenReleased_keeps asReset
  have read {c : Instr} (hc : isReadCommand c = true) : InStarting (after c s) := by
    obtain ⟨f, eq, attn⟩ := after_read hc s
    exact eq ▸ asReset.with_svc f ((attn _).trans asReset.attn)
  cases c with
  | release =>
    simp only [after, releaseCommand]
    refine released ?_
    rw [if_neg (by simp [asReset.mode])]
    exact answered _ _ asReset
  | acknowledge =>
    simp only [after, acknowledgeCommand]
    refine released ?_
    rw [asReset.leaveFiredWhere]
    exact answered _ _ (asReset.with_svc _ asReset.attnNow)
  | scan =>
    simp only [after, scanCommand]
    refine released ?_
    rw [if_neg (by simp [asReset.mode, isEvaluating])]
    exact answered _ _ asReset
  | freeze =>
    simp only [after, freezeCommand]
    exact released (answered _ _ (asReset.requestFreeze _ _))
  | resume =>
    simp only [after, resumeCommand]
    refine released ?_
    split
    · exact answered _ _ (asReset.with_port s.rli.lineLow rfl asReset.count asReset.attn)
    · exact answered _ _ asReset
  | park =>
    simp only [after, parkCommand]
    refine released ?_
    rw [if_neg (by simp [asReset.mode, isSending])]
    exact answered _ _ asReset
  | unpark =>
    simp only [after, unparkCommand]
    refine released ?_
    rw [if_neg (by simp [asReset.mode])]
    exact answered _ _ asReset
  | ident | station | zones | watch | roster | captureInfo | capture | badRequest | serviceRead => exact read rfl
  | _ => cases request

theorem same (eq : t = s) : InStarting t := eq ▸ asReset

theorem resetRelease (addr : Address) (seg : Segment) : InStarting (resetRelease addr seg s) := by
  unfold Machine.resetRelease
  split
  · exact
      { asReset with
        runs := .inr rfl
        underReset := nofun
        straps := fun _ => ⟨rfl, rfl⟩
        sup := congrArg (fun p : Supervisor => { p with ownAddr := some addr, ownSeg := some seg, loading := true }) asReset.sup }
  · exact asReset

theorem loadEnd (image : List Byte) (loading : s.sup.loading = true) : Started (loadEnd image s) := by
  have released : s.clk.held = false := by
    rw [Bool.eq_false_iff]
    intro held
    simp [(asReset.underReset held).1] at loading
  obtain ⟨addr, seg⟩ := asReset.straps released
  simp only [Machine.loadEnd]
  rw [if_pos loading]
  refine ⟨?_, ?_, ?_, ?_, ?_⟩
  all_goals simp [endStarting, installConfig, *]

/-- In STARTING only RESET, RESET_RELEASE and LOAD_END do more than that. -/
theorem after {c : Instr} (other : c ≠ .reset ∧ ∀ image, c ≠ .loadEnd image) : InStarting (after c s) := by
  have rx := asReset.rx
  have tx : s.rli.tx = none := congrArg RowLine.tx asReset.rli
  have scan : s.dsu.scan = .idle := congrArg DripUnit.scan asReset.dsu
  have valve : s.vlv.valve = .closed := congrArg Valve.valve asReset.vlv
  have entries : s.ros.entries = [] := congrArg Roster.entries asReset.ros
  have outside : s.rli.rx ≠ .inFrame := by simp [rx]
  cases c with
  | reset => exact absurd rfl other.1
  | loadEnd image => exact absurd rfl (other.2 image)
  | resetRelease addr seg => exact asReset.resetRelease addr seg
  | joinTimerExpiry => exact asReset.same (joinTimerExpiry_of_stopped (congrArg Supervisor.joinTimer asReset.sup))
  | announceTimerExpiry => exact asReset.same (announceTimerExpiry_of_stopped (congrArg Link.announce asReset.lnk))
  | holdoffExpiry => exact asReset.same (holdoffExpiry_of_stopped (congrArg Link.holdoff asReset.lnk))
  | attemptStart => exact asReset.same (attemptStart_of_none (.inl (by simp [rx])))
  | startEdge held => exact asReset.fallingEdge held
  | rowFallingEdge held => exact asReset.fallingEdge held
  | rowRisingEdge held => exact asReset.risingEdge held
  | driveRelease => exact asReset.driveRelease
  | quiet => exact asReset.same (quietReached_of_other (by simp [rx]) (by simp [rx]))
  | lineStuck => exact asReset.same (lineStuck_of_other (.inr (.inl rx)))
  | gapTimeout => exact asReset.same (gapTimeout_of_other (receivingFrame_of_other (.inr outside)))
  | frameError cell => exact asReset.same (frameError_of_other cell (receivingFrame_of_other (.inr outside)))
  | lengthError len => exact asReset.same (lengthError_of_other len (receivingFrame_of_other (.inr outside)))
  | goodFrame bytes => exact asReset.same (goodFrame_of_outside bytes outside)
  | lostArbitration n => exact asReset.same (lostArbitration_of_other n (.inr outside))
  | bitError sampled => exact asReset.same (bitError_of_other sampled (.inr outside))
  | cellSamplePoint => exact asReset.same (cellSamplePoint_of_outside outside)
  | transmitCellEdge => exact asReset.same (transmitCellEdge_of_other (.inr outside))
  | entryStale a => exact asReset.same (entryStale_of_unknown (by rw [entries]; rfl))
  | entryRemoval a => exact asReset.same (entryRemoval_of_unknown (by rw [entries]; rfl))
  | scanTimerExpiry => exact asReset.same (scanTimerExpiry_of_stopped (congrArg DripUnit.scanTimer asReset.dsu))
  | referencePhaseEnd ticks => exact asReset.same (referencePhaseEnd_of_other ticks (by simp [scan]))
  | referenceFault => exact asReset.same (referenceFault_none (by simp [scan]))
  | sensorPhaseEnd cycles => exact asReset.same (sensorPhaseEnd_of_other cycles (by simp [scan]))
  | counterOverflow => exact asReset.same (counterOverflow_of_other (by simp [scan]))
  | acquisitionTimerExpiry => exact asReset.same (acquisitionTimerExpiry_of_stopped (congrArg Measure.acqTimer asReset.msu))
  | conversionEnd code => exact asReset.same (conversionEnd_of_idle code (congrArg Measure.adc asReset.msu))
  | flowRisingEdge ticks => exact asReset.same (if_pos asReset.mode)
  | noFlow => exact asReset.same (noFlow_of_awaitFirst (congrArg Measure.edge asReset.msu))
  | windowExpiry u => exact asReset.same (windowExpiry_of_stopped (asReset.unit_status u).2)
  | periodStart => exact asReset.same (by simp only [Machine.after, periodStart, valve])
  | pullInExpiry => exact asReset.same (pullInExpiry_of_not_opening (by simp [valve]))
  | strokeTimerExpiry => exact asReset.same (strokeTimerExpiry_of_not_closing (by simp [valve]))
  | release | acknowledge | scan | freeze | resume | park | unpark | ident | station | zones | watch | roster | captureInfo | capture
  | badRequest | serviceRead => exact asReset.request rfl

theorem tickState : InStarting (tickState s) := by
  have rli : tickRowLine s.rli = s.rli := by
    rw [asReset.rli]
    rfl
  exact
    { runs := asReset.runs.imp_left (tickClock_held s.clk).trans
      underReset := fun held => asReset.underReset ((tickClock_held s.clk).symm.trans held)
      straps := fun held => asReset.straps ((tickClock_held s.clk).symm.trans held)
      sup := congrArg (fun p : Supervisor => { p with joinTimer := tickDown p.joinTimer }) asReset.sup
      rli := rli.trans (asReset.rli.trans (by rw [← rli]; rfl))
      lnk := congrArg tickLink asReset.lnk
      ros := congrArg tickRoster asReset.ros
      dsu := congrArg tickDrip asReset.dsu
      msu := congrArg tickMeasure asReset.msu
      wch := congrArg (tickWatch s.sup.mode) asReset.wch |>.trans (by rw [asReset.mode]; rfl)
      shr := asReset.shr
      vlv := congrArg tickValve asReset.vlv
      ring := asReset.ring
      count := asReset.count
      attn := asReset.attn }

end InStarting

/-- Settles O50: out of STARTING only RESET leads back, and in it every command but RESET_RELEASE and LOAD_END leaves the blocks alone. -/
theorem startingIsKept : Obligations.StartingIsKept := by
  unfold Obligations.StartingIsKept
  intro s t safe
  refine step_leads (Q := StartingSafe) (fun _ _ => id) (fun _ _ => id) (fun _ => id) (fun c s safe => ?_) (fun s safe => ?_) safe
  · by_cases mode : s.sup.mode = .starting
    · have asReset := inStarting_of_safe safe mode
      by_cases reset : c = .reset
      · rw [reset]
        exact startingSafe_reset _ _
      · by_cases loads : ∃ image, c = .loadEnd image
        · obtain ⟨image, rfl⟩ := loads
          cases loading : s.sup.loading
          · rw [Machine.after, loadEnd_of_loaded image loading]
            exact safe
          · exact (asReset.loadEnd image loading).safe
        · exact (asReset.after ⟨reset, not_exists.1 loads⟩).safe
    · exact startingSafe_after_started c (started_of_safe safe mode)
  · by_cases mode : s.sup.mode = .starting
    · exact (inStarting_of_safe safe mode).tickState.safe
    · obtain ⟨released, rest⟩ := started_of_safe safe mode
      exact Started.safe ⟨(tickClock_held s.clk).trans released, rest⟩

end Sys2Proof.Machine
end

section
/-! PROOF. The modes and the join (R7 to R15, R41, R85): the join-degrade contribution, the timers of each mode, containment, and O51 from
these. -/

namespace Sys2Proof.Machine

open Safety

variable {s t : State}

/-! ## The join-degrade contribution (R10) -/

/-- The contribution stands only while reference faults are counted, and before a scan in progress too. -/
def DegradeSafe (s : State) : Prop :=
  s.sup.joinDegrade = true → 0 < s.dsu.refFaults ∧ (s.dsu.scan ≠ .idle → 0 < s.dsu.refFaultsBefore)

theorem DegradeSafe.of_same (degrade : t.sup.joinDegrade = s.sup.joinDegrade) (faults : t.dsu.refFaults = s.dsu.refFaults)
    (before : t.dsu.refFaultsBefore = s.dsu.refFaultsBefore) (scan : t.dsu.scan = s.dsu.scan) (safe : DegradeSafe s) :
    DegradeSafe t := by
  simp only [DegradeSafe, degrade, faults, before, scan]
  exact safe

theorem degradeSafe_of_faults (counted : s.sup.joinDegrade = true → 0 < s.dsu.refFaults)
    (before : s.dsu.scan ≠ .idle → s.dsu.refFaultsBefore = s.dsu.refFaults) : DegradeSafe s :=
  fun degrade => ⟨counted degrade, fun scanning => (before scanning).symm ▸ counted degrade⟩

/-- A scan that starts notes the fault count. -/
theorem degradeSafe_triggered (safe : DegradeSafe s) :
    DegradeSafe (s.mapDsu fun d => if d.scan = .idle then beginScan d else { d with rescan := true }) := by
  intro degrade
  obtain ⟨counted, before⟩ := safe degrade
  simp only [State.mapDsu_dsu]
  split
  · exact ⟨counted, fun _ => counted⟩
  · exact ⟨counted, before⟩

theorem degradeSafe_timerTrigger (safe : DegradeSafe s) : DegradeSafe (timerTrigger s) := by
  intro degrade
  obtain ⟨counted, before⟩ := safe degrade
  rw [timerTrigger_dsu]
  split
  · exact ⟨counted, fun _ => counted⟩
  · exact ⟨counted, before⟩

theorem degradeSafe_modes : KeptByModes DegradeSafe where
  line _ _ _ := id
  ros _ _ _ := id
  svc _ _ := id
  join s _ keeps := DegradeSafe.of_same (keeps s.sup).2.1 rfl rfl rfl
  mode _ _ _ := id
  record _ _ := id
  freeze _ _ _ _ := id
  opens s := DegradeSafe.of_same (by simp) (by simp) (by simp) (by simp)
  closes s := DegradeSafe.of_same (by simp) (by simp) (by simp) (by simp)
  starts _ _ := id
  triggers _ _ := degradeSafe_triggered

theorem degradeSafe_moves : KeptByMoves DegradeSafe where
  toKeptByModes := degradeSafe_modes
  toKeptByWatch := degradeSafe_modes.byWatch (fun _ _ => id) fun _ _ => id

/-- A scan ends idle, or in a new one that has noted the count. -/
theorem degradeSafe_endScan (counted : s.sup.joinDegrade = true → 0 < s.dsu.refFaults) : DegradeSafe (endScan s) := by
  cases rescan : s.dsu.rescan
  · rw [endScan_of_no_rescan rescan]
    exact degradeSafe_of_faults counted fun scanning => absurd rfl scanning
  · rw [endScan_of_rescan rescan]
    exact degradeSafe_of_faults counted fun _ => rfl

/-- A fault is counted. -/
def FaultCounted (s : State) : Prop := 0 < s.dsu.refFaults

theorem faultCounted_modes : KeptByModes FaultCounted where
  line _ _ _ := id
  ros _ _ _ := id
  svc _ _ := id
  join _ _ _ := id
  mode _ _ _ := id
  record _ _ := id
  freeze _ _ _ _ := id
  opens s := by simp [FaultCounted]
  closes s := by simp [FaultCounted]
  starts _ _ := id
  triggers s _ counted := by
    simp only [FaultCounted, urgentTrigger_dsu]
    split <;> exact counted

theorem faultCounted_faultTold : FaultCounted (faultTold s) := by
  have counted : FaultCounted (handEvent .refFault (s.mapDsu fun d => { d with refFaults := min (d.refFaults + 1) 255 })) := by
    show 0 < min (s.dsu.refFaults + 1) 255
    omega
  have joined {s : State} (counted : FaultCounted s) : FaultCounted (joinFault s) := by
    simp only [joinFault]
    split
    · exact counted
    · split
      · exact faultCounted_modes.enterIsolated (faultCounted_modes.failDryCheck counted)
      · exact faultCounted_modes.passDryCheck counted
  simp only [faultTold]
  split
  · exact joined counted
  · exact counted

theorem degradeSafe_referenceFault (safe : DegradeSafe s) : DegradeSafe (referenceFault s) := by
  by_cases scan : s.dsu.scan = .reference
  · have ended := degradeSafe_endScan (s := faultTold s) fun _ => faultCounted_faultTold
    rw [referenceFault_scanning scan]
    refine degradeSafe_modes.updateAttn ?_
    split
    · exact degradeSafe_triggered ended
    · exact ended
  · rwa [referenceFault_none scan]

theorem degradeSafe_phaseEnds {z : Fin 4} (scan : s.dsu.scan = .sensor z) (r : ZoneReading) (safe : DegradeSafe s) :
    DegradeSafe (updateAttn (afterSensorPhase z (deliverReading r s))) := by
  have delivered : DegradeSafe (deliverReading r s) := by
    have noted : DegradeSafe (s.mapDsu fun d => { d with latest := d.latest.set r.zone (some r) }) := safe
    have reeval {s : State} (safe : DegradeSafe s) : DegradeSafe (reevalSensorFault s) := safe
    exact reeval (degradeSafe_moves.sample _ _ _ nofun (degradeSafe_moves.record _ _ noted))
  refine degradeSafe_modes.updateAttn ?_
  unfold afterSensorPhase
  split
  · intro degrade
    obtain ⟨counted, before⟩ := delivered degrade
    exact ⟨counted, fun _ => before (by rw [deliverReading_dsu, scan]; exact nofun)⟩
  · unfold completeScan
    refine degradeSafe_endScan ?_
    split
    · exact fun degrade => (degradeSafe_moves.resolveDryCheck delivered degrade).1
    · exact fun degrade => (delivered degrade).1

theorem degradeSafe_acceptPark (safe : DegradeSafe s) : DegradeSafe (acceptPark s) := by
  have dsu : (acceptPark s).dsu =
      { restoreBefore { s.dsu with scanTimer := none } with
        scan := .idle, rescan := false, scanTimer := none, counter := none, timeBase := none } := by
    simp [acceptPark, changeMode_dsu, isSending]
  have degrade : (acceptPark s).sup.joinDegrade = s.sup.joinDegrade := by simp [acceptPark]
  refine degradeSafe_of_faults (fun now => ?_) fun scanning => absurd (by rw [dsu]) scanning
  obtain ⟨counted, before⟩ := safe (degrade ▸ now)
  rw [dsu]
  unfold restoreBefore
  dsimp only
  split
  · exact counted
  case isFalse scanning => exact before scanning

theorem degradeSafe_after (c : Instr) (safe : DegradeSafe s) : DegradeSafe (after c s) := by
  cases c with
  | reset => exact nofun
  | resetRelease addr seg =>
    simp only [after, resetRelease]
    split <;> exact safe
  | loadEnd image =>
    simp only [after, loadEnd]
    split
    · exact degradeSafe_modes.updateAttn (degradeSafe_modes.enterJoining (s := endStarting _) safe)
    · exact safe
  | conversionEnd code =>
    simp only [after, conversionEnd]
    split
    · exact safe
    · split
      · exact safe
      · refine degradeSafe_modes.updateAttn (degradeSafe_moves.deliverSet _ (fun s m hs => ?_) (fun s m hs => ?_)
          (DegradeSafe.of_same (s := s) rfl rfl rfl rfl safe))
        · exact hs.of_same (by simp) (by simp) (by simp) (by simp)
        · exact hs.of_same (by simp) (by simp) (by simp) (by simp)
  | periodStart =>
    simp only [after, periodStart]
    split <;> exact safe
  | pullInExpiry =>
    simp only [after, pullInExpiry]
    split <;> exact safe
  | strokeTimerExpiry =>
    simp only [after, strokeTimerExpiry]
    split
    · refine degradeSafe_modes.updateAttn ?_
      split <;> exact safe.of_same (by simp) (by simp) (by simp) (by simp)
    all_goals exact safe
  | freeze => exact whenReleased_keeps safe safe
  | resume =>
    simp only [after, resumeCommand]
    refine whenReleased_keeps safe ?_
    split <;> exact safe
  | park =>
    simp only [after, parkCommand]
    refine whenReleased_keeps safe ?_
    split
    · exact degradeSafe_modes.svc _ _ (degradeSafe_acceptPark safe)
    · exact safe
  | scanTimerExpiry =>
    simp only [after, scanTimerExpiry]
    split
    · exact degradeSafe_timerTrigger (s := s.mapDsu _) safe
    · exact safe
  | referencePhaseEnd ticks =>
    simp only [after, referencePhaseEnd]
    split
    · exact nofun
    · exact safe
  | referenceFault => exact degradeSafe_referenceFault safe
  | sensorPhaseEnd cycles =>
    simp only [after, sensorPhaseEnd]
    split
    case h_1 z scan =>
      split
      · exact degradeSafe_phaseEnds scan _ safe
      · exact safe
    all_goals exact safe
  | counterOverflow =>
    simp only [after, counterOverflow]
    split
    case h_1 z scan => exact degradeSafe_phaseEnds scan _ safe
    all_goals exact safe
  | acquisitionTimerExpiry =>
    simp only [after, acquisitionTimerExpiry]
    split <;> exact safe
  | flowRisingEdge ticks =>
    simp only [after, flowRisingEdge]
    split
    · exact safe
    · split
      · exact safe
      · split <;> exact safe
  | noFlow =>
    simp only [after, noFlow]
    split <;> exact safe
  | _ => exact degradeSafe_moves.after rfl safe

/-! ## The timers of the modes (R8, R11, R41, R85) -/

/-- ModeSafe without the containment count and the join-degrade contribution. -/
structure ModeTimers (s : State) : Prop where
  announce : s.lnk.announce.isSome = isSending s.sup.mode
  joining : s.sup.joinTimer.isSome = true → s.sup.mode = .joining
  waits : s.sup.mode = .joining →
    (s.sup.dryCheck = .pending ∧ s.sup.joinFaults < 3 ∧ (s.sup.joinTimer.isSome = !s.sup.joinExpired)) ∨
    (s.sup.dryCheck = .passed ∧ s.sup.joinTimer.isSome = true ∧ s.sup.joinExpired = false)
  faults : s.sup.joinFaults ≤ 3
  scans : isSending s.sup.mode = true ∨ s.sup.mode = .conflict → s.dsu.scanTimer.isSome = true

/-- ACTIVE and CONTAINED agree with the containment count (R13). -/
def Agrees (s : State) : Prop :=
  (s.sup.mode = .contained → 1 ≤ s.sup.cfg.quorum ∧ s.sup.cfg.quorum ≤ isolationCount s) ∧
  (s.sup.mode = .active → s.sup.cfg.quorum = 0 ∨ isolationCount s < s.sup.cfg.quorum)

theorem modeSafe_iff : ModeSafe s ↔ ModeTimers s ∧ Agrees s ∧ DegradeSafe s := by
  constructor
  · rintro ⟨announce, joining, waits, faults, contained, active, scans, degrade⟩
    exact ⟨⟨announce, joining, waits, faults, scans⟩, ⟨contained, active⟩, degrade⟩
  · rintro ⟨⟨announce, joining, waits, faults, scans⟩, ⟨contained, active⟩, degrade⟩
    exact ⟨announce, joining, waits, faults, contained, active, scans, degrade⟩

/-- The modes' own timers and containment. -/
def ModeKept (s : State) : Prop := ModeTimers s ∧ Agrees s

/-- What the supervisor holds of the modes and the join. -/
def SameJoin (p q : Supervisor) : Prop :=
  q.mode = p.mode ∧ q.dryCheck = p.dryCheck ∧ q.joinTimer = p.joinTimer ∧ q.joinExpired = p.joinExpired ∧ q.joinFaults = p.joinFaults

theorem ModeTimers.of_same (sup : SameJoin s.sup t.sup) (announce : t.lnk.announce.isSome = s.lnk.announce.isSome)
    (scans : s.dsu.scanTimer.isSome = true → t.dsu.scanTimer.isSome = true) (timers : ModeTimers s) : ModeTimers t := by
  obtain ⟨mode, dryCheck, joinTimer, joinExpired, joinFaults⟩ := sup
  obtain ⟨announces, joining, waits, faults, scanning⟩ := timers
  constructor
  · rw [announce, mode, announces]
  · rw [joinTimer, mode]
    exact joining
  · rw [mode, dryCheck, joinFaults, joinTimer, joinExpired]
    exact waits
  · rwa [joinFaults]
  · rw [mode]
    exact fun sends => scans (scanning sends)

theorem Agrees.of_same (mode : t.sup.mode = s.sup.mode) (quorum : t.sup.cfg.quorum = s.sup.cfg.quorum)
    (count : isolationCount t = isolationCount s) (agrees : Agrees s) : Agrees t := by
  simpa only [Agrees, mode, quorum, count] using agrees

/-- Outside ACTIVE and CONTAINED there is nothing to agree. -/
theorem agrees_of_other (active : s.sup.mode ≠ .active) (contained : s.sup.mode ≠ .contained) : Agrees s :=
  ⟨fun now => absurd now contained, fun now => absurd now active⟩

/-! ## Moves of the mode -/

/-- A change of mode with the join timer stopped. -/
theorem modeTimers_changeMode {m : Mode} (notJoining : m ≠ .joining) (announce : s.lnk.announce.isSome = isSending s.sup.mode)
    (stopped : s.sup.joinTimer = none) (faults : s.sup.joinFaults ≤ 3) : ModeTimers (changeMode m s) where
  announce := by
    rw [changeMode_lnk, changeMode_mode]
    cases sends : isSending m
    · rfl
    · simp only [if_true]
      split
      case isTrue sent => rw [announce, sent]
      · rfl
  joining := by simp [stopped]
  waits := by simp [notJoining]
  faults := by simpa using faults
  scans sends := by
    rw [changeMode_mode] at sends
    rw [changeMode_dsu, if_pos sends]
    rfl

theorem isolationCount_congr (ros : t.ros = s.ros) (ownSeg : t.sup.ownSeg = s.sup.ownSeg) : isolationCount t = isolationCount s := by
  simp only [isolationCount, ros, ownSeg]

/-- The evaluation makes the mode agree, whatever count it finds. -/
theorem modeKept_evalContainment (timers : ModeTimers s) (quorum : s.sup.mode = .contained → 1 ≤ s.sup.cfg.quorum) :
    ModeKept (evalContainment s) := by
  have count (m : Mode) : isolationCount (changeMode m s) = isolationCount s := isolationCount_congr (by simp) (by simp)
  obtain ⟨stays, why⟩ | ⟨moves, one, active, reached⟩ | ⟨moves, one, contained, below⟩ := evalContainment_cases s
  · rw [stays]
    refine ⟨timers, fun contained => ?_, fun active => ?_⟩
    · obtain none | ⟨active, -⟩ | ⟨-, reached⟩ | ⟨-, other⟩ := why
      · exact absurd none (Nat.one_le_iff_ne_zero.1 (quorum contained))
      · exact absurd (contained.symm.trans active) nofun
      · exact ⟨quorum contained, reached⟩
      · exact absurd contained other
    · obtain none | ⟨-, below⟩ | ⟨contained, -⟩ | ⟨other, -⟩ := why
      · exact .inl none
      · exact .inr below
      · exact absurd (contained.symm.trans active) nofun
      · exact absurd active other
  · rw [moves]
    have stopped : s.sup.joinTimer = none := Option.not_isSome_iff_eq_none.1 fun runs => by simpa [active] using timers.joining runs
    refine ⟨modeTimers_changeMode nofun timers.announce stopped timers.faults, fun _ => ?_, fun other => by simp at other⟩
    simpa [count] using ⟨one, reached⟩
  · rw [moves]
    have stopped : s.sup.joinTimer = none := Option.not_isSome_iff_eq_none.1 fun runs => by simpa [contained] using timers.joining runs
    refine ⟨modeTimers_changeMode nofun timers.announce stopped timers.faults, fun other => by simp at other, fun _ => .inr ?_⟩
    simpa [count] using below

/-- Going to ACTIVE with the join timer stopped. -/
theorem modeKept_goActive (announce : s.lnk.announce.isSome = isSending s.sup.mode) (stopped : s.sup.joinTimer = none)
    (faults : s.sup.joinFaults ≤ 3) : ModeKept (goActive s) :=
  modeKept_evalContainment (modeTimers_changeMode nofun announce stopped faults) (by simp)

theorem modeKept_enterIsolated (announce : s.lnk.announce.isSome = isSending s.sup.mode) (stopped : s.sup.joinTimer = none)
    (faults : s.sup.joinFaults ≤ 3) : ModeKept (enterIsolated s) := by
  have moved : ModeTimers (changeMode .isolated s) := modeTimers_changeMode nofun announce stopped faults
  rw [enterIsolated_eq]
  refine ⟨moved.of_same ?_ (by simp) (by simp), agrees_of_other (by simp) (by simp)⟩
  simp [SameJoin]

/-- Outside JOINING the join timer is stopped. -/
theorem ModeTimers.stopped (timers : ModeTimers s) (other : s.sup.mode ≠ .joining) : s.sup.joinTimer = none :=
  Option.not_isSome_iff_eq_none.1 fun runs => other (timers.joining runs)

theorem modeKept_isolateAction (kept : ModeKept s) : ModeKept (isolateAction s) := by
  obtain ⟨timers, agrees⟩ := kept
  obtain ⟨mode, eq⟩ | ⟨mode, eq⟩ | ⟨mode, eq⟩ | ⟨mode, eq⟩ | ⟨-, eq⟩ := isolateAction_cases s
  all_goals rw [eq]
  · exact modeKept_enterIsolated timers.announce (timers.stopped (by obtain mode | mode := mode <;> simp [mode])) timers.faults
  · exact modeKept_enterIsolated (s := failJoin s) timers.announce rfl timers.faults
  · exact ⟨timers.of_same (by simp [SameJoin]) (by simp) (by simp), agrees_of_other (by simp [mode]) (by simp [mode])⟩
  · exact ⟨timers.of_same (by simp [SameJoin]) (by simp) (by simp), agrees_of_other (by simp [mode]) (by simp [mode])⟩
  · exact ⟨timers, agrees⟩

theorem ModeKept.of_same (sup : SameJoin s.sup t.sup) (announce : t.lnk.announce.isSome = s.lnk.announce.isSome)
    (scans : s.dsu.scanTimer.isSome = true → t.dsu.scanTimer.isSome = true) (quorum : t.sup.cfg.quorum = s.sup.cfg.quorum)
    (count : isolationCount t = isolationCount s) (kept : ModeKept s) : ModeKept t :=
  ⟨kept.1.of_same sup announce scans, kept.2.of_same sup.1 quorum count⟩

theorem modeKept_record (b : RecordBody) (kept : ModeKept s) : ModeKept (handRecord b s) :=
  ModeKept.of_same (s := s) ⟨rfl, rfl, rfl, rfl, rfl⟩ rfl id rfl rfl kept

theorem modeKept_watch : KeptByWatch ModeKept := KeptByUnits.byWatch
  { unit := fun s _ _ _ => ModeKept.of_same (s := s) ⟨rfl, rfl, rfl, rfl, rfl⟩ rfl id rfl rfl
    marks := fun s u => ModeKept.of_same ⟨rfl, rfl, rfl, rfl, rfl⟩ (by simp) (by simp) rfl (isolationCount_congr (by simp) (by simp))
    left := fun s u => ModeKept.of_same ⟨rfl, rfl, rfl, rfl, rfl⟩ (by simp) (by simp) rfl (isolationCount_congr (by simp) (by simp))
    freeze := fun s _ _ _ => ModeKept.of_same (s := s) ⟨rfl, rfl, rfl, rfl, rfl⟩ rfl id rfl rfl
    drip := fun s _ _ => ModeKept.of_same (s := s) ⟨rfl, rfl, rfl, rfl, rfl⟩ rfl id rfl rfl
    isolate := fun _ => modeKept_isolateAction }

theorem modeKept_triggers (kept : ModeKept s) : ModeKept (urgentTrigger s) := by
  refine ModeKept.of_same (s := s) ⟨rfl, rfl, rfl, rfl, rfl⟩ rfl ?_ rfl rfl kept
  rw [urgentTrigger_dsu]
  split <;> exact id

/-! ## The row line and the roster -/

/-- A change to one entry that keeps its mode and segment keeps the containment count. -/
theorem isolationCount_changeEntry {f : Entry → Entry} {addr : Address}
    (same : ∀ x ∈ s.ros.entries, x.address = addr → (f x).mode = x.mode ∧ (f x).segment = x.segment) :
    isolationCount (s.mapRos fun r => { r with entries := changeEntry addr f r.entries }) = isolationCount s := by
  simp only [isolationCount, State.mapRos_ros, State.mapRos_sup, changeEntry, List.countP_map]
  refine List.countP_congr fun x mem => ?_
  simp only [Function.comp]
  split
  case isTrue addressed =>
    obtain ⟨mode, segment⟩ := same x mem addressed
    rw [mode, segment]
  · rfl

/-- A frame that calls for no notice leaves the containment count as it is (R72). -/
theorem isolationCount_rosterTakes {f : PeerFrame} {own : Nat} {addr : Address} (ascending : Ascending s.ros.entries)
    (quiet : (rosterTakes own addr f s.ros).2 = false) :
    isolationCount (s.mapRos fun _ => (rosterTakes own addr f s.ros).1) = isolationCount s := by
  cases found : findEntry addr s.ros.entries with
  | some e =>
    simp only [rosterTakes, found] at quiet ⊢
    split at quiet
    · cases quiet
    case isFalse stays =>
      have same : (updatedEntry f e).mode = e.mode ∧ (updatedEntry f e).segment = e.segment := by
        simp only [callsForNotice, decide_eq_false_iff_not, not_or, not_not] at quiet
        exact ⟨quiet.1.symm, quiet.2.1.symm⟩
      rw [if_neg stays]
      exact isolationCount_changeEntry fun x mem addressed => eq_of_findEntry ascending found mem addressed ▸ same
  | none =>
    simp only [rosterTakes, found] at quiet ⊢
    split at quiet
    · split at quiet
      · cases quiet
      case isFalse full =>
        rw [if_neg full]
        rfl
    · rfl

theorem modeKept_rosterTook {f : PeerFrame} {addr : Address} (ascending : Ascending s.ros.entries) (kept : ModeKept s) :
    ModeKept (rosterTook addr f s) := by
  obtain ⟨timers, agrees⟩ := kept
  have took : ModeTimers (s.mapRos fun _ => (rosterTakes s.sup.cfg.pAnn addr f s.ros).1) :=
    ModeTimers.of_same (s := s) ⟨rfl, rfl, rfl, rfl, rfl⟩ rfl id timers
  simp only [rosterTook]
  split
  · exact modeKept_evalContainment took fun contained => (agrees.1 contained).1
  case isFalse quiet =>
    exact ⟨took, Agrees.of_same (s := s) rfl rfl (isolationCount_rosterTakes ascending (by simpa using quiet)) agrees⟩

theorem modeKept_takeFrame {f : PeerFrame} {addr : Address} (ascending : Ascending s.ros.entries) (kept : ModeKept s) :
    ModeKept (takeFrame addr f s) := by
  have took := modeKept_rosterTook (f := f) (addr := addr) ascending kept
  obtain ⟨seg, sev, zones, -, -, arrives⟩ | ⟨-, ends⟩ := takeFrame_cases addr f s
  · rw [arrives]
    have recorded := modeKept_record (.event (.peerDrip addr sev)) took
    have watched : ModeKept (watchPeerDrip addr (handEvent (.peerDrip addr sev) (rosterTook addr f s))) := by
      unfold watchPeerDrip
      split
      · exact modeKept_watch.sample _ _ _ nofun (modeKept_watch.arms _ recorded)
      · exact recorded
    unfold peerDripArrival dripPeerDrip
    split
    · exact modeKept_triggers watched
    · exact watched
  · rwa [ends]

/-- At the link controller an entry to CONFLICT leaves the announce timer as it is. -/
theorem conflictAtLink_announce (s : State) : (conflictAtLink s).lnk.announce = s.lnk.announce := by
  simp only [conflictAtLink, abandonAttempt]
  split <;> rfl

/-- Entry to CONFLICT stops the timers of the join and of the announcements (R18, R41). -/
theorem modeKept_enterConflict (faults : s.sup.joinFaults ≤ 3) : ModeKept (enterConflict s) := by
  have mode : (enterConflict s).sup.mode = .conflict := by simp [enterConflict]
  refine ⟨⟨?_, ?_, ?_, ?_, ?_⟩, agrees_of_other (by simp [mode]) (by simp [mode])⟩
  · rw [mode]
    simp only [enterConflict, conflictAtLink_announce, State.mapSup_lnk, changeMode_lnk]
    rfl
  · simp [enterConflict]
  · simp [mode]
  · simpa [enterConflict] using faults
  · intro _
    simp [enterConflict, changeMode_dsu]

theorem modeKept_conflictReport (kept : ModeKept s) : ModeKept (conflictReport s) := by
  unfold conflictReport
  split
  · exact kept
  · exact kept
  all_goals exact modeKept_enterConflict kept.1.faults

/-- What the row line does keeps the modes' timers and containment. -/
theorem modeKept_lineOutcome (ascending : Ascending s.ros.entries) (kept : ModeKept s) (outcome : LineOutcome s t) : ModeKept t := by
  have lined (f : RowLine → RowLine) (g : Link → Link) (announces : (g s.lnk).announce.isSome = s.lnk.announce.isSome) :
      ModeKept ((s.mapRli f).mapLnk g) :=
    ModeKept.of_same (s := s) ⟨rfl, rfl, rfl, rfl, rfl⟩ announces id rfl rfl kept
  cases outcome with
  | link outcome =>
    cases outcome with
    | line f g announces => exact lined f g announces
    | holdoff f g announces => exact modeKept_record _ (lined f g announces)
  | conflict f g announces => exact modeKept_conflictReport (lined f g announces)
  | peer f g announces frame _ => exact modeKept_takeFrame ascending (lined f g announces)

theorem modeKept_svc (f : Service → Service) (kept : ModeKept s) : ModeKept (s.mapSvc f) :=
  ModeKept.of_same (s := s) ⟨rfl, rfl, rfl, rfl, rfl⟩ rfl id rfl rfl kept

theorem modeKept_updateAttn (kept : ModeKept s) : ModeKept (updateAttn s) := modeKept_svc _ kept

theorem modeKept_measure (f : Measure → Measure) (kept : ModeKept s) : ModeKept (s.mapMsu f) :=
  ModeKept.of_same (s := s) ⟨rfl, rfl, rfl, rfl, rfl⟩ rfl id rfl rfl kept

theorem modeKept_valve (f : Valve → Valve) (kept : ModeKept s) : ModeKept (s.mapVlv f) :=
  ModeKept.of_same (s := s) ⟨rfl, rfl, rfl, rfl, rfl⟩ rfl id rfl rfl kept

theorem modeKept_enterValve (v : ValveState) (kept : ModeKept s) : ModeKept (enterValve v s) :=
  modeKept_record _ (modeKept_valve _ kept)

theorem modeKept_startOpening (kept : ModeKept s) : ModeKept (startOpening s) := modeKept_enterValve _ (modeKept_valve _ kept)

theorem modeKept_openRequest (kept : ModeKept s) : ModeKept (openRequest s) := by
  obtain ⟨-, eq⟩ | ⟨-, eq⟩ | ⟨-, eq⟩ := openRequest_cases s
  all_goals rw [eq]
  · exact modeKept_startOpening kept
  · exact kept
  · exact modeKept_valve _ kept

theorem modeKept_queueEvent (f : EventFrame) (kept : ModeKept s) : ModeKept (queueEvent f s) :=
  ModeKept.of_same (s := s) ⟨rfl, rfl, rfl, rfl, rfl⟩ rfl id rfl rfl kept

theorem modeKept_freeze (r : FreezeReason) (u : Option (Fin 8)) (kept : ModeKept s) : ModeKept (requestFreeze r u s) :=
  ModeKept.of_same (s := s) ⟨rfl, rfl, rfl, rfl, rfl⟩ rfl id rfl rfl kept

theorem modeKept_reevalSensorFault (kept : ModeKept s) : ModeKept (reevalSensorFault s) :=
  ModeKept.of_same (s := s) ⟨rfl, rfl, rfl, rfl, rfl⟩ rfl id rfl rfl kept

/-! ## The join (R8 to R12) -/

/-- Entry to JOINING starts the join afresh, from any state. -/
theorem modeKept_enterJoining (s : State) : ModeKept (enterJoining s) := by
  have mode : (enterJoining s).sup.mode = .joining := enterJoining_mode s
  refine ⟨⟨?_, fun _ => mode, fun _ => .inl ?_, ?_, ?_⟩, agrees_of_other (by simp) (by simp)⟩
  · simp [enterJoining, changeMode_lnk, isSending]
  · simp [enterJoining]
  · simp [enterJoining]
  · simp [enterJoining, isSending]

/-- The dry check of a join that waits passes: the join goes on to its timer, or ends (R9, R11). -/
theorem modeKept_passDryCheck (announce : s.lnk.announce.isSome = isSending s.sup.mode) (joining : s.sup.mode = .joining)
    (timer : s.sup.joinTimer.isSome = !s.sup.joinExpired) (faults : s.sup.joinFaults ≤ 3) : ModeKept (passDryCheck s) := by
  have expired : (openRequest (s.mapSup fun p => { p with dryCheck := .passed })).sup.joinExpired = s.sup.joinExpired := by simp
  simp only [passDryCheck, expired]
  split
  case isTrue ran =>
    refine modeKept_goActive (by simpa using announce) ?_ (by simpa using faults)
    simpa [ran] using timer
  case isFalse running =>
    refine ⟨⟨by simpa using announce, fun _ => by simpa using joining, fun _ => .inr ?_, by simpa using faults, ?_⟩,
      agrees_of_other (by simp [joining]) (by simp [joining])⟩
    · simpa [running] using timer
    · simp [joining, isSending]

/-- A failed dry check isolates (R9, R10, R12). -/
theorem modeKept_failed (announce : s.lnk.announce.isSome = isSending s.sup.mode) (faults : s.sup.joinFaults ≤ 3) :
    ModeKept (enterIsolated (failDryCheck s)) := modeKept_enterIsolated (s := failDryCheck s) announce rfl faults

/-- While the check waits the join has not seen three faults, and its timer runs or has marked its expiry. -/
theorem ModeTimers.waiting (timers : ModeTimers s) (waits : dryCheckWaits s = true) :
    s.sup.mode = .joining ∧ s.sup.joinFaults < 3 ∧ s.sup.joinTimer.isSome = !s.sup.joinExpired := by
  obtain ⟨joining, pending⟩ : s.sup.mode = .joining ∧ s.sup.dryCheck = .pending := by simpa [dryCheckWaits] using waits
  obtain ⟨-, faults, timer⟩ | ⟨passed, -⟩ := timers.waits joining
  · exact ⟨joining, faults, timer⟩
  · exact absurd (pending.symm.trans passed) nofun

/-- The dry check's firings leave the supervisor as it is but for WATCH_FIRED. -/
theorem fireDryCheckUnits_sup (units : List (Fin 8)) (s : State) :
    ∃ b, (fireDryCheckUnits units s).sup = { s.sup with watchFired := b } := by
  refine foldl_induct (P := fun t => ∃ b, t.sup = { s.sup with watchFired := b }) (fun t u told => ?_) units ⟨_, rfl⟩
  obtain ⟨b, eq⟩ := told
  split
  · exact ⟨b, eq⟩
  · exact ⟨true, by simp [fireInDryCheck, markFired, eq]⟩

theorem modeKept_resolveDryCheck (waits : dryCheckWaits s = true) (timers : ModeTimers s) : ModeKept (resolveDryCheck s) := by
  obtain ⟨joining, -, timer⟩ := timers.waiting waits
  simp only [resolveDryCheck]
  split
  · exact modeKept_passDryCheck timers.announce joining timer timers.faults
  · obtain ⟨b, sup⟩ := fireDryCheckUnits_sup (allUnits.filter (qualifiesInDryCheck s)) (failDryCheck s)
    refine modeKept_enterIsolated ?_ ?_ ?_
    · rw [fireDryCheckUnits_lnk, sup]
      exact timers.announce
    · rw [sup]
      rfl
    · rw [sup]
      exact timers.faults

/-- A reference fault in a waiting join: the first two are counted, the third ends the wait (R10). -/
theorem modeKept_joinFault (waits : dryCheckWaits s = true) (timers : ModeTimers s) : ModeKept (joinFault s) := by
  obtain ⟨joining, faults, timer⟩ := timers.waiting waits
  have pending : s.sup.dryCheck = .pending := by simpa [dryCheckWaits, joining] using waits
  have most : s.sup.joinFaults + 1 ≤ 3 := faults
  simp only [joinFault]
  split
  case isTrue below =>
    exact ⟨⟨timers.announce, timers.joining, fun _ => .inl ⟨pending, below, timer⟩, most, timers.scans⟩,
      agrees_of_other (by simp [joining]) (by simp [joining])⟩
  · split
    · exact modeKept_failed timers.announce most
    · exact modeKept_passDryCheck timers.announce joining timer most

theorem modeKept_endScan (kept : ModeKept s) : ModeKept (endScan s) := by
  refine ModeKept.of_same (s := s) (by simp [SameJoin]) (by simp) (fun runs => ?_) (by simp) (isolationCount_congr (by simp) (by simp)) kept
  simp only [endScan]
  split
  · rfl
  · simp only [State.mapDsu_dsu]
    split <;> exact runs

theorem modeKept_referenceFault (kept : ModeKept s) : ModeKept (referenceFault s) := by
  by_cases scan : s.dsu.scan = .reference
  · have counted : ModeKept (handEvent .refFault (s.mapDsu fun d => { d with refFaults := min (d.refFaults + 1) 255 })) :=
      ModeKept.of_same (s := s) ⟨rfl, rfl, rfl, rfl, rfl⟩ rfl id rfl rfl kept
    have told : ModeKept (faultTold s) := by
      simp only [faultTold]
      split
      case isTrue waits => exact modeKept_reevalSensorFault (modeKept_joinFault waits counted.1)
      · exact modeKept_reevalSensorFault counted
    rw [referenceFault_scanning scan]
    refine modeKept_updateAttn ?_
    split
    · exact modeKept_triggers (modeKept_endScan told)
    · exact modeKept_endScan told
  · rwa [referenceFault_none scan]

/-! ## Samples -/

theorem modeKept_deliverReading (r : ZoneReading) (kept : ModeKept s) : ModeKept (deliverReading r s) :=
  modeKept_reevalSensorFault (modeKept_watch.sample _ _ _ nofun (modeKept_record _
    (ModeKept.of_same (s := s) ⟨rfl, rfl, rfl, rfl, rfl⟩ rfl id rfl rfl kept)))

theorem modeKept_afterSensorPhase (z : Fin 4) (kept : ModeKept s) : ModeKept (afterSensorPhase z s) := by
  unfold afterSensorPhase
  split
  · exact ModeKept.of_same (s := s) ⟨rfl, rfl, rfl, rfl, rfl⟩ rfl id rfl rfl kept
  · unfold completeScan
    split
    case isTrue waits => exact modeKept_endScan (modeKept_resolveDryCheck waits kept.1)
    · exact modeKept_endScan kept

theorem modeKept_deliverIf {src : Source} (watched : src ≠ .none) (valid : Bool) (v : Option Int) (kept : ModeKept s) :
    ModeKept (deliverIf src valid v s) := by
  unfold deliverIf
  split
  · exact modeKept_watch.sample _ _ _ watched kept
  · exact kept
  · exact kept

theorem modeKept_processedSet (m : MeasurementSet) (kept : ModeKept s) : ModeKept (processedSet m s) :=
  ModeKept.of_same (by simp [SameJoin]) (by simp) (by simp) (by simp) (isolationCount_congr (by simp) (by simp)) kept

theorem modeKept_deliverSet (m : MeasurementSet) (kept : ModeKept s) : ModeKept (deliverSet m s) := by
  have sampled : ModeKept (deliverSetSamples m (reevalSensorFault s)) :=
    modeKept_deliverIf (by simp) _ _ (modeKept_deliverIf (by simp) _ _
      (modeKept_deliverIf (by simp) _ _ (modeKept_reevalSensorFault kept)))
  simp only [deliverSet]
  split
  · have sent (sh : Share) {s : State} (kept : ModeKept s) : ModeKept (receiveDuty sh.duty (s.mapShr fun _ => sh)) :=
      ModeKept.of_same (s := s) (by simp [SameJoin]) (by simp) (by simp) (by simp) (isolationCount_congr (by simp) (by simp)) kept
    unfold controlStep
    refine modeKept_processedSet m ?_
    split
    · exact modeKept_watch.sample _ _ _ nofun (sent _ sampled)
    · exact sent _ sampled
  · exact modeKept_processedSet m sampled

/-! ## The commands and time -/

theorem modeKept_joinTimerExpiry (kept : ModeKept s) : ModeKept (joinTimerExpiry s) := by
  obtain ⟨timers, agrees⟩ := kept
  unfold joinTimerExpiry
  split
  case h_1 running =>
    have joining := timers.joining (by rw [running]; rfl)
    simp only [State.mapSup_sup, joining, if_true]
    split
    case h_1 => exact modeKept_updateAttn (modeKept_goActive (s := s.mapSup _) (by simpa [joining] using timers.announce) rfl timers.faults)
    case h_2 pending =>
      refine ⟨⟨timers.announce, fun _ => joining, fun _ => .inl ⟨pending, ?_, rfl⟩, timers.faults, timers.scans⟩,
        agrees_of_other (by simp [joining]) (by simp [joining])⟩
      obtain ⟨-, faults, -⟩ | ⟨passed, -⟩ := timers.waits joining
      · exact faults
      · exact absurd (pending.symm.trans passed) nofun
    all_goals
      case _ other => obtain ⟨pending, -⟩ | ⟨passed, -⟩ := timers.waits joining <;> simp_all
  · exact ⟨timers, agrees⟩

theorem modeKept_release (kept : ModeKept s) : ModeKept (releaseCommand s) := by
  refine whenReleased_keeps kept ?_
  split
  case isTrue isolated =>
    split
    · exact modeKept_svc _ kept
    · have left := (modeKept_watch.leaves s (fun _ => true) kept).1
      have went := modeKept_goActive left.announce (left.stopped (by simp [isolated])) left.faults
      simp only [answer, acceptRelease]
      exact modeKept_svc _ (modeKept_updateAttn (modeKept_queueEvent _ (modeKept_openRequest went)))
  · exact modeKept_svc _ kept

theorem modeKept_park (kept : ModeKept s) : ModeKept (parkCommand s) := by
  refine whenReleased_keeps kept ?_
  split
  case isTrue sends =>
    have stopped : s.sup.joinTimer = none := kept.1.stopped fun joining => by simp [joining, isSending] at sends
    have mode : (acceptPark s).sup.mode = .parked := by simp [acceptPark]
    refine modeKept_svc _ ⟨⟨?_, ?_, ?_, ?_, ?_⟩, agrees_of_other (by simp [mode]) (by simp [mode])⟩
    · simp [acceptPark, changeMode_lnk, isSending]
    · simp [acceptPark, stopped]
    · simp [mode]
    · simpa [acceptPark] using kept.1.faults
    · simp [mode, isSending]
  · exact modeKept_svc _ kept

/-- The commands of the row line, the roster and the units, and the requests. -/
theorem modeKept_moves {c : Instr} (moves : isMove c = true) (ascending : Ascending s.ros.entries) (kept : ModeKept s) :
    ModeKept (after c s) := by
  have released {f : State → State} : ModeKept (f s) → ModeKept (whenReleased f s) := whenReleased_keeps kept
  have noticed (f : Roster → Roster) : ModeKept (changeNotice (s.mapRos f)) :=
    modeKept_evalContainment (s := s.mapRos f) (ModeTimers.of_same (s := s) ⟨rfl, rfl, rfl, rfl, rfl⟩ rfl id kept.1)
      fun contained => (kept.2.1 contained).1
  have line {c : Instr} (hc : isLineCommand c = true) : ModeKept (after c s) := by
    obtain outcome | ⟨x, outcome, eq⟩ := after_line_outcome hc s
    · exact modeKept_lineOutcome ascending kept (.link outcome)
    · exact eq ▸ modeKept_updateAttn (modeKept_lineOutcome ascending kept outcome)
  have read {c : Instr} (hc : isReadCommand c = true) : ModeKept (after c s) := by
    obtain ⟨f, eq, -⟩ := after_read hc s
    exact eq ▸ modeKept_svc f kept
  cases c with
  | reset | resetRelease | loadEnd | conversionEnd | periodStart | pullInExpiry | strokeTimerExpiry | freeze | resume | park
  | scanTimerExpiry | referencePhaseEnd | referenceFault | sensorPhaseEnd | counterOverflow | acquisitionTimerExpiry | flowRisingEdge
  | noFlow => cases moves
  | joinTimerExpiry => exact modeKept_joinTimerExpiry kept
  | entryStale addr =>
    simp only [after, entryStale]
    split
    · split
      · exact modeKept_updateAttn (noticed _)
      · exact kept
    · exact kept
  | entryRemoval addr =>
    simp only [after, entryRemoval]
    split
    · exact modeKept_updateAttn (noticed _)
    · exact kept
  | windowExpiry u => exact modeKept_watch.expires s u kept
  | release => exact modeKept_release kept
  | acknowledge =>
    simp only [after, acknowledgeCommand]
    exact released (modeKept_svc _ (modeKept_updateAttn (modeKept_watch.leaves s _ kept)))
  | scan =>
    simp only [after, scanCommand]
    refine released ?_
    split
    · exact modeKept_svc _ (modeKept_triggers kept)
    · exact modeKept_svc _ kept
  | unpark =>
    simp only [after, unparkCommand]
    refine released ?_
    split
    · exact modeKept_svc _ (modeKept_updateAttn (modeKept_enterJoining s))
    · exact modeKept_svc _ kept
  | ident | station | zones | watch | roster | captureInfo | capture | badRequest | serviceRead => exact read rfl
  | _ => exact line rfl

theorem modeKept_after (c : Instr) (starting : StartingSafe s) (ascending : Ascending s.ros.entries) (kept : ModeKept s) :
    ModeKept (after c s) := by
  have released {f : State → State} : ModeKept (f s) → ModeKept (whenReleased f s) := whenReleased_keeps kept
  have valve {t : State} (kept : ModeKept t) : ModeKept (updateAttn t) := modeKept_updateAttn kept
  cases c with
  | reset => exact ⟨⟨rfl, nofun, nofun, Nat.zero_le 3, by simp [after, resetPart, isSending, State.reset]⟩, agrees_of_other nofun nofun⟩
  | resetRelease addr seg =>
    simp only [after, resetRelease]
    split
    case isTrue held =>
      have mode : s.sup.mode = .starting := starting.1.2 (.inl held)
      exact ⟨ModeTimers.of_same (s := s) ⟨rfl, rfl, rfl, rfl, rfl⟩ rfl id kept.1,
        agrees_of_other (by simp [mode]) (by simp [mode])⟩
    · exact kept
  | loadEnd image =>
    simp only [after, loadEnd]
    split
    · exact modeKept_updateAttn (modeKept_enterJoining _)
    · exact kept
  | conversionEnd code =>
    simp only [after, conversionEnd]
    split
    · exact kept
    · split
      · exact modeKept_measure _ kept
      · exact modeKept_updateAttn (modeKept_deliverSet _ (modeKept_measure _ kept))
  | periodStart =>
    simp only [after, periodStart]
    split
    · exact modeKept_valve _ kept
    all_goals exact kept
  | pullInExpiry =>
    simp only [after, pullInExpiry]
    split
    · exact modeKept_enterValve _ (modeKept_valve _ kept)
    all_goals exact kept
  | strokeTimerExpiry =>
    simp only [after, strokeTimerExpiry]
    split
    · have ended := modeKept_valve (fun d => { d with stroke := none, reopen := false, strokeFault := !strokeCheck s }) kept
      refine modeKept_updateAttn ?_
      split
      · exact modeKept_startOpening (modeKept_enterValve _ ended)
      · exact modeKept_enterValve _ ended
      · exact modeKept_startOpening ended
      · exact modeKept_enterValve _ ended
    all_goals exact kept
  | freeze =>
    simp only [after, freezeCommand]
    exact released (modeKept_svc _ (modeKept_freeze _ _ kept))
  | resume =>
    simp only [after, resumeCommand]
    refine released ?_
    split
    · exact modeKept_svc _ (ModeKept.of_same (s := s) ⟨rfl, rfl, rfl, rfl, rfl⟩ rfl id rfl rfl kept)
    · exact modeKept_svc _ kept
  | park => exact modeKept_park kept
  | scanTimerExpiry =>
    simp only [after, scanTimerExpiry]
    split
    · refine ModeKept.of_same (s := s) (by simp [SameJoin]) (by simp) (fun _ => ?_) (by simp) (isolationCount_congr (by simp) (by simp)) kept
      rw [timerTrigger_dsu]
      split <;> rfl
    · exact kept
  | referencePhaseEnd ticks =>
    simp only [after, referencePhaseEnd]
    split
    · exact modeKept_updateAttn (ModeKept.of_same (s := s) ⟨rfl, rfl, rfl, rfl, rfl⟩ rfl id rfl rfl kept)
    · exact kept
  | referenceFault => exact modeKept_referenceFault kept
  | sensorPhaseEnd cycles =>
    simp only [after, sensorPhaseEnd]
    split
    · split
      · exact modeKept_updateAttn (modeKept_afterSensorPhase _ (modeKept_deliverReading _ kept))
      · exact kept
    all_goals exact kept
  | counterOverflow =>
    simp only [after, counterOverflow]
    split
    · exact modeKept_updateAttn (modeKept_afterSensorPhase _ (modeKept_deliverReading _ kept))
    all_goals exact kept
  | acquisitionTimerExpiry =>
    simp only [after, acquisitionTimerExpiry]
    split
    · exact modeKept_measure _ kept
    · exact kept
  | flowRisingEdge ticks =>
    simp only [after, flowRisingEdge]
    split
    · exact kept
    · split
      · exact modeKept_measure _ kept
      · split
        · exact kept
        · exact modeKept_measure _ kept
  | noFlow =>
    simp only [after, noFlow]
    split
    · exact modeKept_measure _ kept
    · exact kept
  | _ => exact modeKept_moves rfl ascending kept

theorem modeKept_tick (kept : ModeKept s) : ModeKept (tickState s) := by
  obtain ⟨timers, agrees⟩ := kept
  have count : isolationCount (tickState s) = isolationCount s := by
    simp only [isolationCount, tickState, tickRoster, List.countP_map]
    rfl
  refine ⟨⟨?_, ?_, ?_, timers.faults, ?_⟩, Agrees.of_same (s := s) rfl rfl count agrees⟩
  · simpa [tickState, tickLink, tickDown] using timers.announce
  · simpa [tickState, tickDown] using timers.joining
  · simpa [tickState, tickDown] using timers.waits
  · simpa [tickState, tickDrip, tickDown] using timers.scans

/-- Settles O51: the timers and containment by the operations that move the mode, the join-degrade contribution by the fault count. -/
theorem modesAreKept : Obligations.ModesAreKept := by
  unfold Obligations.ModesAreKept
  intro s t starting roster safe stepped
  simp only [modeSafe_iff] at safe ⊢
  obtain ⟨timers, agrees, degrade⟩ := safe
  have carried (s : State) (q : List Instr) (kept : ModeKept s ∧ DegradeSafe s) :
      ModeKept { s with pending := q } ∧ DegradeSafe { s with pending := q } :=
    ⟨ModeKept.of_same (s := s) ⟨rfl, rfl, rfl, rfl, rfl⟩ rfl id rfl rfl kept.1, kept.2⟩
  have kept : ModeKept t ∧ DegradeSafe t :=
    step_leads (Q := fun s => StartingSafe s ∧ Ascending s.ros.entries ∧ ModeKept s ∧ DegradeSafe s)
      (P := fun s => ModeKept s ∧ DegradeSafe s) (fun s q held => ⟨held.1, held.2.1, carried s q held.2.2⟩) carried (fun _ q => q.2.2)
      (fun c _ q => ⟨modeKept_after c q.1 q.2.1 q.2.2.1, degradeSafe_after c q.2.2.2⟩)
      (fun _ q => ⟨modeKept_tick q.2.2.1, q.2.2.2⟩) ⟨starting, roster.2.1, ⟨timers, agrees⟩, degrade⟩ stepped
  exact ⟨kept.1.1, kept.1.2, kept.2⟩

end Sys2Proof.Machine
end

section
/-! PROOF. The link and the row line (R24, R25, R39 to R53): what the link holds beside the receiver and the frame in flight, kept by every event
of the line, by every move of the mode and by what joins the queue; and O52 from these. -/

namespace Sys2Proof.Machine

open Safety

variable {s t : State} {own : Address} {r r' : RowLine} {l l' : Link}

/-! ## The invariant, block by block -/

/-- The quiet timer and the low-time measure of a receiver that is not OFF (R24, R25). -/
def TimersRun (r : RowLine) : Prop :=
  (match r.quiet with
   | .running n => n ≤ 160
   | .awaitRise => r.lineLow = true
   | .stopped => False) ∧
  r.lowTime.isSome = r.lineLow

/-- The link state agrees with the receiver (R39). -/
def Matched (rx : RxState) (l : Link) : Prop :=
  match l.link with
  | .off => rx = .off
  | .waitQuiet => rx = .seekQuiet
  | .idle => rx = .idle
  | .receiving => rx = .inFrame
  | .sending => rx = .inFrame
  | .holdoff => (rx = .seekQuiet ∨ rx = .idle ∨ rx = .inFrame) ∧ l.holdoff.isSome = true
  | .lineFault => rx = .stuck

/-- The attempt count is 4 exactly in the holdoff, which is in HOLDOFF or LINE_FAULT (R51, R52). -/
def HoldoffFits (l : Link) : Prop :=
  l.attempts ≤ 4 ∧ (l.attempts = 4 ↔ l.holdoff.isSome = true) ∧ (l.holdoff.isSome = true → l.link = .holdoff ∨ l.link = .lineFault)

/-- A STATUS is in flight. -/
def statusSent (r : RowLine) : Bool :=
  match r.tx with
  | some t => decide (t.kind = .status)
  | none => false

/-- LinkSafe of the two blocks it reads, but for CONFLICT. -/
structure LinkFits (own : Address) (r : RowLine) (l : Link) : Prop where
  matched : Matched r.rx l
  sends : l.link = .sending ↔ r.tx.isSome = true
  head : ∀ t, r.tx = some t → t.kind = .event → ∃ f q, l.queue = f :: q ∧ t.bytes = eventBytes own f
  length : l.queue.length ≤ 4
  holdoff : HoldoffFits l
  renewed : l.renewed = true → statusSent r = true
  off : r.rx = .off → r.quiet = .stopped ∧ r.lowTime = none
  timers : r.rx ≠ .off → TimersRun r

/-- In CONFLICT nothing is waiting to be sent (R53). -/
def LinkStill (s : State) : Prop :=
  s.sup.mode = .conflict → s.lnk.queue = [] ∧ s.lnk.statusPending = false ∧ s.rli.tx = none

def LinkKept (s : State) : Prop := LinkFits (ownAddress s) s.rli s.lnk ∧ LinkStill s

theorem linkMatches_iff : LinkMatches s ↔ Matched s.rli.rx s.lnk := by
  unfold LinkMatches Matched
  cases s.lnk.link <;> rfl

theorem lineTimersSafe_iff :
    LineTimersSafe s ↔ (s.rli.rx = .off → s.rli.quiet = .stopped ∧ s.rli.lowTime = none) ∧ (s.rli.rx ≠ .off → TimersRun s.rli) := by
  unfold LineTimersSafe TimersRun
  cases s.rli.rx with
  | off => exact ⟨fun stopped => ⟨fun _ => stopped, fun awake => absurd rfl awake⟩, fun both => both.1 rfl⟩
  | seekQuiet | idle | inFrame | stuck => exact ⟨fun run => ⟨nofun, fun _ => run⟩, fun both => both.2 nofun⟩

theorem linkSafe_iff : LinkSafe s ↔ LinkKept s := by
  unfold LinkSafe
  rw [linkMatches_iff, lineTimersSafe_iff]
  constructor
  · rintro ⟨matched, sends, head, length, most, counted, holds, renewed, conflict, off, timers⟩
    refine ⟨⟨matched, sends, fun t flies event => ?_, length, ⟨most, counted, holds⟩, renewed, off, timers⟩, conflict⟩
    rw [flies] at head
    simpa only [event] using head
  · rintro ⟨⟨matched, sends, head, length, ⟨most, counted, holds⟩, renewed, off, timers⟩, conflict⟩
    refine ⟨matched, sends, ?_, length, most, counted, holds, renewed, conflict, off, timers⟩
    split
    case h_1 t flies =>
      split
      case h_1 event => exact head t flies event
      · trivial
    · trivial

/-! ## Consequences -/

namespace LinkFits

theorem tx_none (fits : LinkFits own r l) (link : l.link ≠ .sending) : r.tx = none :=
  Option.not_isSome_iff_eq_none.1 fun flies => link (fits.sends.2 flies)

theorem renewed_false (fits : LinkFits own r l) (link : l.link ≠ .sending) : l.renewed = false := by
  refine Bool.eq_false_iff.2 fun renewed => ?_
  simpa [statusSent, fits.tx_none link] using fits.renewed renewed

/-- Outside the holdoff fewer than 4 attempts have failed. -/
theorem no_holdoff (fits : LinkFits own r l) (link : l.link ≠ .holdoff) (fault : l.link ≠ .lineFault) :
    l.holdoff = none ∧ l.attempts < 4 := by
  obtain ⟨most, counted, holds⟩ := fits.holdoff
  have none : ¬l.holdoff.isSome = true := fun runs => (holds runs).elim link fault
  exact ⟨Option.not_isSome_iff_eq_none.1 none, lt_of_le_of_ne most fun four => none (counted.1 four)⟩

theorem of_inFrame (fits : LinkFits own r l) (rx : r.rx = .inFrame) : l.link = .receiving ∨ l.link = .sending ∨ l.link = .holdoff := by
  have matched := fits.matched
  unfold Matched at matched
  cases link : l.link <;> simp_all

theorem of_idle (fits : LinkFits own r l) (rx : r.rx = .idle) : l.link = .idle ∨ l.link = .holdoff := by
  have matched := fits.matched
  unfold Matched at matched
  cases link : l.link <;> simp_all

theorem of_seekQuiet (fits : LinkFits own r l) (rx : r.rx = .seekQuiet) : l.link = .waitQuiet ∨ l.link = .holdoff := by
  have matched := fits.matched
  unfold Matched at matched
  cases link : l.link <;> simp_all

theorem of_stuck (fits : LinkFits own r l) (rx : r.rx = .stuck) : l.link = .lineFault := by
  have matched := fits.matched
  unfold Matched at matched
  cases link : l.link <;> simp_all

/-- In HOLDOFF the holdoff timer runs and the attempt count is 4. -/
theorem in_holdoff (fits : LinkFits own r l) (link : l.link = .holdoff) : l.holdoff.isSome = true ∧ l.attempts = 4 := by
  have matched := fits.matched
  simp only [Matched, link] at matched
  exact ⟨matched.2, fits.holdoff.2.1.2 matched.2⟩

/-! ## How it is kept -/

/-- The line moves with the receiver's state and the frame in flight as they were. -/
theorem line (fits : LinkFits own r l) (rx : r'.rx = r.rx) (tx : r'.tx = r.tx) (off : r.rx = .off → r'.quiet = r.quiet ∧ r'.lowTime = r.lowTime)
    (timers : r.rx ≠ .off → TimersRun r → TimersRun r') : LinkFits own r' l where
  matched := rx ▸ fits.matched
  sends := tx ▸ fits.sends
  head := tx ▸ fits.head
  length := fits.length
  holdoff := fits.holdoff
  renewed := by
    unfold statusSent
    rw [tx]
    exact fits.renewed
  off now := by
    obtain ⟨quiet, lowTime⟩ := off (rx ▸ now)
    rw [quiet, lowTime]
    exact fits.off (rx ▸ now)
  timers now := timers (rx ▸ now) (fits.timers (rx ▸ now))

/-- The line moves inside a frame. -/
theorem inFrame (fits : LinkFits own r l) (was : r.rx = .inFrame) (rx : r'.rx = r.rx) (tx : r'.tx = r.tx)
    (timers : TimersRun r → TimersRun r') : LinkFits own r' l :=
  fits.line rx tx (fun off => absurd (was.symm.trans off) nofun) fun _ => timers

/-- The link controller's own flags and queue move, the queue's head staying while there is one. -/
theorem link (fits : LinkFits own r l) (link : l'.link = l.link) (attempts : l'.attempts = l.attempts)
    (holdoff : l'.holdoff.isSome = l.holdoff.isSome) (length : l'.queue.length ≤ 4)
    (head : ∀ f q, l.queue = f :: q → ∃ q', l'.queue = f :: q')
    (renewed : l'.renewed = true → l.renewed = true ∨ statusSent r = true) : LinkFits own r l' where
  matched := by
    have matched := fits.matched
    simpa only [Matched, link, holdoff] using matched
  sends := link ▸ fits.sends
  head t flies event := by
    obtain ⟨f, q, queue, bytes⟩ := fits.head t flies event
    obtain ⟨q', queue'⟩ := head f q queue
    exact ⟨f, q', queue', bytes⟩
  length := length
  holdoff := by
    have fit := fits.holdoff
    simpa only [HoldoffFits, link, attempts, holdoff] using fit
  renewed now := (renewed now).elim fits.renewed id
  off := fits.off
  timers := fits.timers

end LinkFits

/-- A link that sends nothing. -/
theorem linkFits_of_none (tx : r.tx = none) (link : l.link ≠ .sending) (matched : Matched r.rx l) (length : l.queue.length ≤ 4)
    (holdoff : HoldoffFits l) (renewed : l.renewed = false) (awake : r.rx ≠ .off) (timers : TimersRun r) : LinkFits own r l where
  matched := matched
  sends := by simp [tx, link]
  head t flies := by simp [tx] at flies
  length := length
  holdoff := holdoff
  renewed now := by simp [renewed] at now
  off now := absurd now awake
  timers _ := timers

theorem holdoffFits_of_none (none : l.holdoff = none) (few : l.attempts < 4) : HoldoffFits l := by
  refine ⟨few.le, ?_, ?_⟩ <;> simp [none, few.ne]

/-! ## The line's timers -/

theorem timersRun_takeFall {ago : Nat} (short : ago ≤ 160) (r : RowLine) : TimersRun (takeFall ago r) := ⟨short, rfl⟩

theorem filterDelay_le (c : ConfigSet) : filterDelay c ≤ 160 := by
  unfold filterDelay
  split <;> omega

theorem timersRun_takeRise {ago : Nat} (short : ago ≤ 160) (run : TimersRun r) : TimersRun (takeRise ago r) := by
  obtain ⟨quiet, -⟩ := run
  refine ⟨?_, rfl⟩
  simp only [takeRise_eq, quietAtRise]
  cases timer : r.quiet with
  | stopped => simp [timer] at quiet
  | running n => simpa [timer] using quiet
  | awaitRise => simpa using short

theorem timersRun_setLevel (low : Bool) (run : TimersRun r) : TimersRun (setLevel low r) := by
  obtain ⟨quiet, lowTime⟩ := run
  refine ⟨?_, by cases low <;> rfl⟩
  cases timer : r.quiet <;> cases level : r.lineLow <;> cases low <;> simp_all [setLevel, quietAtRise]

theorem timersRun_sampledLine (current low : Bool) (run : TimersRun r) : TimersRun (sampledLine current low r) := by
  cases current
  · exact timersRun_setLevel low (timersRun_takeFall (by omega) r)
  · exact timersRun_setLevel low run

theorem timersRun_toSeekQuiet (run : TimersRun r) : TimersRun (toSeekQuiet r) := by
  obtain ⟨quiet, lowTime⟩ := run
  refine ⟨quiet, ?_⟩
  simp only [toSeekQuiet]
  split
  case isTrue low => simp [low]
  · exact lowTime

/-- The cell, the driver and the frame have no part in the timers. -/
theorem timersRun_beginCell (ago : Nat) (run : TimersRun r) : TimersRun (beginCell ago r) := run

theorem timersRun_ownEdge (run : TimersRun r) : TimersRun (ownEdge r) := by
  unfold ownEdge
  split
  · exact run
  · exact timersRun_takeFall (by omega) r

theorem timersRun_fallInFrame {ago : Nat} (short : ago ≤ 160) (r : RowLine) : TimersRun (fallInFrame ago r) := by
  unfold fallInFrame
  split
  · split
    · exact timersRun_takeFall short r
    · exact timersRun_takeFall short r
  · exact timersRun_takeFall short r

theorem timersRun_tick (run : TimersRun r) : TimersRun (tickRowLine r) := by
  obtain ⟨quiet, lowTime⟩ := run
  refine ⟨?_, by simpa [tickRowLine, tickUp] using lowTime⟩
  simp only [tickRowLine, tickQuiet]
  cases timer : r.quiet with
  | stopped => simp [timer] at quiet
  | awaitRise => simpa [timer] using quiet
  | running n =>
    by_cases below : n + 1 < 160
    · simpa [below] using below.le
    · cases low : r.lineLow <;> simp [below]

/-! ## The ends of a frame (R27 to R31, R49 to R51) -/

theorem linkKept_of_same (rli : t.rli = s.rli) (lnk : t.lnk = s.lnk) (mode : t.sup.mode = s.sup.mode)
    (ownAddr : t.sup.ownAddr = s.sup.ownAddr) (kept : LinkKept s) : LinkKept t := by
  unfold LinkKept LinkStill ownAddress at *
  rwa [rli, lnk, mode, ownAddr]

/-- In CONFLICT there stays nothing to send. -/
theorem LinkStill.less (mode : t.sup.mode = s.sup.mode) (queue : s.lnk.queue = [] → t.lnk.queue = [])
    (statusPending : s.lnk.statusPending = false → t.lnk.statusPending = false) (tx : s.rli.tx = none → t.rli.tx = none)
    (still : LinkStill s) : LinkStill t := by
  intro conflict
  obtain ⟨empty, quiet, none⟩ := still (mode ▸ conflict)
  exact ⟨queue empty, statusPending quiet, tx none⟩

theorem linkStill_of_other (other : s.sup.mode ≠ .conflict) : LinkStill s := fun now => absurd now other

/-- The line moves with the receiver's state and the frame in flight as they were. -/
theorem linkKept_line {f : RowLine → RowLine} (rx : (f s.rli).rx = s.rli.rx) (tx : (f s.rli).tx = s.rli.tx) (awake : s.rli.rx ≠ .off)
    (timers : TimersRun s.rli → TimersRun (f s.rli)) (kept : LinkKept s) : LinkKept (s.mapRli f) :=
  ⟨kept.1.line rx tx (fun off => absurd off awake) fun _ => timers,
    LinkStill.less (s := s) rfl id id (fun none => tx.trans none) kept.2⟩

/-- A frame has ended at the receiver, and with it the attempt: the link waits for quiet, or stays in its holdoff. -/
theorem linkFits_frameEnded (fits : LinkFits own r l) (rx : r.rx = .inFrame) (e : LinkError) (q : List EventFrame) (p : Bool)
    (length : q.length ≤ 4) :
    LinkFits own (toSeekQuiet r)
      { l with queue := q, statusPending := p, lastError := e, renewed := false, link := linkAfterFrame l.link } := by
  have ends (link : l.link ≠ .holdoff) (fault : l.link ≠ .lineFault) :
      LinkFits own (toSeekQuiet r)
        { l with queue := q, statusPending := p, lastError := e, renewed := false, link := linkAfterFrame l.link } := by
    have none := fits.no_holdoff link fault
    have waits : linkAfterFrame l.link = .waitQuiet := by simp [linkAfterFrame, link]
    rw [waits]
    exact linkFits_of_none rfl nofun rfl length (holdoffFits_of_none none.1 none.2) rfl nofun
      (timersRun_toSeekQuiet (fits.timers (by simp [rx])))
  obtain receiving | sending | held := fits.of_inFrame rx
  · exact ends (by simp [receiving]) (by simp [receiving])
  · exact ends (by simp [sending]) (by simp [sending])
  · have fit := fits.holdoff
    have stays : linkAfterFrame l.link = .holdoff := by simp [linkAfterFrame, held]
    rw [stays]
    exact linkFits_of_none rfl nofun ⟨.inl rfl, (fits.in_holdoff held).1⟩ length (by simpa [HoldoffFits, held] using fit) rfl nofun
      (timersRun_toSeekQuiet (fits.timers (by simp [rx])))

theorem linkKept_receptionError (e : LinkError) (rx : s.rli.rx = .inFrame) (kept : LinkKept s) : LinkKept (receptionError e s) :=
  ⟨linkFits_frameEnded kept.1 rx e s.lnk.queue s.lnk.statusPending kept.1.length,
    LinkStill.less (s := s) rfl id id (fun _ => rfl) kept.2⟩

/-! ## The modes, the queue and the units -/

/-- Status-pending, the announce timer and a queue that keeps its head, outside CONFLICT. -/
theorem linkKept_link {g : Link → Link} (other : s.sup.mode ≠ .conflict) (link : (g s.lnk).link = s.lnk.link)
    (attempts : (g s.lnk).attempts = s.lnk.attempts) (holdoff : (g s.lnk).holdoff.isSome = s.lnk.holdoff.isSome)
    (length : (g s.lnk).queue.length ≤ 4) (head : ∀ f q, s.lnk.queue = f :: q → ∃ q', (g s.lnk).queue = f :: q')
    (renewed : (g s.lnk).renewed = true → s.lnk.renewed = true ∨ statusSent s.rli = true) (kept : LinkKept s) : LinkKept (s.mapLnk g) :=
  ⟨kept.1.link link attempts holdoff length head renewed, linkStill_of_other other⟩

theorem linkKept_queueEvent (f : EventFrame) (other : s.sup.mode ≠ .conflict) (kept : LinkKept s) : LinkKept (queueEvent f s) :=
  linkKept_link other rfl rfl rfl (enqueueFrame_length _ _) (fun g q queue => by simpa [queue] using enqueueFrame_head f g q) .inl kept

theorem linkKept_changeMode {m : Mode} (other : m ≠ .conflict) (kept : LinkKept s) : LinkKept (changeMode m s) := by
  have fits : LinkFits (ownAddress s) s.rli (changeMode m s).lnk := by
    rw [changeMode_lnk]
    split
    · refine kept.1.link rfl rfl rfl kept.1.length (fun f q queue => ⟨q, queue⟩) fun now => ?_
      exact Bool.or_eq_true_iff.1 now
    · exact kept.1.link rfl rfl rfl kept.1.length (fun f q queue => ⟨q, queue⟩) .inl
  refine ⟨?_, linkStill_of_other (by simpa using other)⟩
  unfold ownAddress at *
  simpa using fits

theorem linkKept_evalContainment (kept : LinkKept s) : LinkKept (evalContainment s) := by
  obtain ⟨eq, -⟩ | ⟨eq, -⟩ | ⟨eq, -⟩ := evalContainment_cases s
  all_goals rw [eq]
  · exact kept
  · exact linkKept_changeMode (by simp) kept
  · exact linkKept_changeMode (by simp) kept

theorem linkKept_goActive (kept : LinkKept s) : LinkKept (goActive s) :=
  linkKept_evalContainment (linkKept_changeMode (by simp) kept)

theorem linkKept_closeRequest (kept : LinkKept s) : LinkKept (closeRequest s) :=
  linkKept_of_same (by simp) (by simp) (by simp) (by simp) kept

theorem linkKept_enterIsolated (kept : LinkKept s) : LinkKept (enterIsolated s) := by
  rw [enterIsolated_eq]
  exact linkKept_queueEvent _ (by simp) (linkKept_closeRequest (linkKept_changeMode (by simp) kept))

theorem linkKept_failed {f : Supervisor → Supervisor} (mode : (f s.sup).mode = s.sup.mode) (ownAddr : (f s.sup).ownAddr = s.sup.ownAddr)
    (kept : LinkKept s) : LinkKept (s.mapSup f) := linkKept_of_same (s := s) rfl rfl mode ownAddr kept

theorem linkKept_isolateAction (kept : LinkKept s) : LinkKept (isolateAction s) := by
  obtain ⟨-, eq⟩ | ⟨-, eq⟩ | ⟨mode, eq⟩ | ⟨-, eq⟩ | ⟨-, eq⟩ := isolateAction_cases s
  all_goals rw [eq]
  · exact linkKept_enterIsolated kept
  · exact linkKept_enterIsolated (linkKept_failed rfl rfl kept)
  · exact linkKept_queueEvent _ (by simp [mode]) (linkKept_closeRequest kept)
  · exact linkKept_closeRequest kept
  · exact kept

theorem linkKept_watch : KeptByWatch LinkKept := KeptByUnits.byWatch
  { unit := fun s _ _ _ => linkKept_of_same (s := s) rfl rfl rfl rfl
    marks := fun s u => linkKept_of_same (s := s) (by simp) (by simp) (by simp) (by simp)
    left := fun s u => linkKept_of_same (s := s) (by simp) (by simp) (by simp) (by simp)
    freeze := fun s _ _ _ => linkKept_of_same (s := s) rfl rfl rfl rfl
    drip := fun s _ sends => linkKept_queueEvent _ fun conflict => by simp [conflict, isSending] at sends
    isolate := fun _ => linkKept_isolateAction }

theorem linkKept_passDryCheck (kept : LinkKept s) : LinkKept (passDryCheck s) := by
  have opened : LinkKept (openRequest (s.mapSup fun p => { p with dryCheck := .passed })) :=
    linkKept_of_same (s := s) (by simp) (by simp) (by simp) (by simp) kept
  simp only [passDryCheck]
  split
  · exact linkKept_goActive opened
  · exact opened

theorem linkKept_resolveDryCheck (kept : LinkKept s) : LinkKept (resolveDryCheck s) := by
  simp only [resolveDryCheck]
  split
  · exact linkKept_passDryCheck kept
  · exact linkKept_enterIsolated (linkKept_watch.fires _ _ (linkKept_failed (s := s) rfl rfl kept))

theorem linkKept_joinFault (kept : LinkKept s) : LinkKept (joinFault s) := by
  have counted : LinkKept (s.mapSup fun p => { p with joinFaults := p.joinFaults + 1 }) := linkKept_failed rfl rfl kept
  have degraded := linkKept_failed (f := fun p => { p with joinDegrade := true }) rfl rfl counted
  simp only [joinFault]
  split
  · exact counted
  · split
    · exact linkKept_enterIsolated (linkKept_failed rfl rfl degraded)
    · exact linkKept_passDryCheck degraded

theorem linkKept_endScan (kept : LinkKept s) : LinkKept (endScan s) :=
  linkKept_of_same (by simp) (by simp) (by simp) (by simp) kept

theorem linkKept_triggers (kept : LinkKept s) : LinkKept (urgentTrigger s) := linkKept_of_same (s := s) rfl rfl rfl rfl kept

theorem linkKept_svc (f : Service → Service) (kept : LinkKept s) : LinkKept (s.mapSvc f) := linkKept_of_same (s := s) rfl rfl rfl rfl kept

theorem linkKept_record (b : RecordBody) (kept : LinkKept s) : LinkKept (handRecord b s) := linkKept_of_same (s := s) rfl rfl rfl rfl kept

theorem linkKept_updateAttn (kept : LinkKept s) : LinkKept (updateAttn s) := linkKept_svc _ kept

theorem linkKept_reevalSensorFault (kept : LinkKept s) : LinkKept (reevalSensorFault s) := linkKept_failed rfl rfl kept

theorem linkKept_measure (f : Measure → Measure) (kept : LinkKept s) : LinkKept (s.mapMsu f) :=
  linkKept_of_same (s := s) rfl rfl rfl rfl kept

theorem linkKept_referenceFault (kept : LinkKept s) : LinkKept (referenceFault s) := by
  by_cases scan : s.dsu.scan = .reference
  · have counted : LinkKept (handEvent .refFault (s.mapDsu fun d => { d with refFaults := min (d.refFaults + 1) 255 })) :=
      linkKept_of_same (s := s) rfl rfl rfl rfl kept
    have told : LinkKept (faultTold s) := by
      simp only [faultTold]
      split
      · exact linkKept_reevalSensorFault (linkKept_joinFault counted)
      · exact linkKept_reevalSensorFault counted
    rw [referenceFault_scanning scan]
    refine linkKept_updateAttn ?_
    split
    · exact linkKept_triggers (linkKept_endScan told)
    · exact linkKept_endScan told
  · rwa [referenceFault_none scan]

theorem linkKept_deliverReading (r : ZoneReading) (kept : LinkKept s) : LinkKept (deliverReading r s) :=
  linkKept_reevalSensorFault (linkKept_watch.sample _ _ _ nofun (linkKept_record _ (linkKept_of_same (s := s) rfl rfl rfl rfl kept)))

theorem linkKept_afterSensorPhase (z : Fin 4) (kept : LinkKept s) : LinkKept (afterSensorPhase z s) := by
  unfold afterSensorPhase
  split
  · exact linkKept_of_same (s := s) rfl rfl rfl rfl kept
  · unfold completeScan
    split
    · exact linkKept_endScan (linkKept_resolveDryCheck kept)
    · exact linkKept_endScan kept

theorem linkKept_deliverIf {src : Source} (watched : src ≠ .none) (valid : Bool) (v : Option Int) (kept : LinkKept s) :
    LinkKept (deliverIf src valid v s) := by
  unfold deliverIf
  split
  · exact linkKept_watch.sample _ _ _ watched kept
  · exact kept
  · exact kept

theorem linkKept_deliverSet (m : MeasurementSet) (kept : LinkKept s) : LinkKept (deliverSet m s) := by
  have sampled : LinkKept (deliverSetSamples m (reevalSensorFault s)) :=
    linkKept_deliverIf (by simp) _ _ (linkKept_deliverIf (by simp) _ _
      (linkKept_deliverIf (by simp) _ _ (linkKept_reevalSensorFault kept)))
  have processed {s : State} (kept : LinkKept s) : LinkKept (processedSet m s) :=
    linkKept_of_same (by simp) (by simp) (by simp) (by simp) kept
  simp only [deliverSet]
  split
  · have sent (sh : Share) {s : State} (kept : LinkKept s) : LinkKept (receiveDuty sh.duty (s.mapShr fun _ => sh)) :=
      linkKept_of_same (s := s) (by simp) (by simp) (by simp) (by simp) kept
    unfold controlStep
    refine processed ?_
    split
    · exact linkKept_watch.sample _ _ _ nofun (sent _ sampled)
    · exact sent _ sampled
  · exact processed sampled

theorem linkKept_enterJoining (kept : LinkKept s) : LinkKept (enterJoining s) := by
  have moved := linkKept_changeMode (m := .joining) (by simp) kept
  exact linkKept_of_same (s := changeMode .joining s) (by simp [enterJoining]) (by simp [enterJoining]) (by simp) (by simp [enterJoining]) moved

/-! ## A frame of another station, and a conflict -/

theorem linkKept_takeFrame {f : PeerFrame} {addr : Address} (kept : LinkKept s) : LinkKept (takeFrame addr f s) := by
  have took : LinkKept (rosterTook addr f s) := by
    have noted : LinkKept (s.mapRos fun _ => (rosterTakes s.sup.cfg.pAnn addr f s.ros).1) := linkKept_of_same (s := s) rfl rfl rfl rfl kept
    simp only [rosterTook]
    split
    · exact linkKept_evalContainment noted
    · exact noted
  obtain ⟨seg, sev, zones, -, -, arrives⟩ | ⟨-, ends⟩ := takeFrame_cases addr f s
  · rw [arrives]
    have recorded := linkKept_record (.event (.peerDrip addr sev)) took
    have watched : LinkKept (watchPeerDrip addr (handEvent (.peerDrip addr sev) (rosterTook addr f s))) := by
      unfold watchPeerDrip
      split
      · exact linkKept_watch.sample _ _ _ nofun (linkKept_watch.arms _ recorded)
      · exact recorded
    unfold peerDripArrival dripPeerDrip
    split
    · exact linkKept_triggers watched
    · exact watched
  · rwa [ends]

theorem conflictAtLink_rli (s : State) : (conflictAtLink s).rli = if s.rli.tx.isSome then toSeekQuiet s.rli else s.rli := by
  simp only [conflictAtLink, abandonAttempt]
  cases flies : s.rli.tx <;> simp

theorem conflictAtLink_lnk (s : State) :
    (conflictAtLink s).lnk =
      { s.lnk with queue := [], statusPending := false, renewed := false, attempts := 0, holdoff := none
                   link := if s.rli.tx.isSome then .waitQuiet
                     else if s.lnk.link = .holdoff then matchReceiver s.rli.rx else s.lnk.link } := by
  simp only [conflictAtLink, abandonAttempt]
  cases flies : s.rli.tx <;> simp

theorem enterConflict_rli (s : State) : (enterConflict s).rli = if s.rli.tx.isSome then toSeekQuiet s.rli else s.rli := by
  simp [enterConflict, conflictAtLink_rli]

theorem enterConflict_lnk (s : State) :
    (enterConflict s).lnk =
      { s.lnk with announce := none, queue := [], statusPending := false, renewed := false, attempts := 0, holdoff := none
                   link := if s.rli.tx.isSome then .waitQuiet
                     else if s.lnk.link = .holdoff then matchReceiver s.rli.rx else s.lnk.link } := by
  simp [enterConflict, conflictAtLink_lnk, changeMode_lnk, isSending]

/-- The link controller in CONFLICT: nothing is in flight, nothing waits (R53). -/
theorem linkFits_conflict (fits : LinkFits own r l) (awake : r.rx ≠ .off) (announce : Option Nat) :
    LinkFits own (if r.tx.isSome then toSeekQuiet r else r)
      { l with announce := announce, queue := [], statusPending := false, renewed := false, attempts := 0, holdoff := none
               link := if r.tx.isSome then .waitQuiet else if l.link = .holdoff then matchReceiver r.rx else l.link } := by
  have run := fits.timers awake
  split
  · exact linkFits_of_none rfl nofun rfl (Nat.zero_le 4) (holdoffFits_of_none rfl (Nat.zero_lt_succ 3)) rfl nofun
      (timersRun_toSeekQuiet run)
  case isFalse still =>
    have silent : l.link ≠ .sending := fun sends => still (fits.sends.1 sends)
    refine linkFits_of_none (fits.tx_none silent) ?_ ?_ (Nat.zero_le 4) (holdoffFits_of_none rfl (Nat.zero_lt_succ 3)) rfl awake run
    · split
      · cases r.rx <;> simp [matchReceiver]
      · exact silent
    · have matched := fits.matched
      split
      · unfold Matched
        cases rx : r.rx <;> simp [matchReceiver]
      case isFalse link =>
        unfold Matched at matched ⊢
        cases state : l.link <;> simp_all

/-- Entry to CONFLICT abandons the attempt and empties the queue; a holdoff ends in the state that matches the receiver (R53). -/
theorem linkKept_conflictReport (awake : s.rli.rx ≠ .off) (kept : LinkKept s) : LinkKept (conflictReport s) := by
  have entered : LinkKept (enterConflict s) := by
    have fits := linkFits_conflict kept.1 awake none
    rw [← enterConflict_rli, ← enterConflict_lnk] at fits
    refine ⟨?_, fun _ => ?_⟩
    · simpa only [ownAddress, enterConflict_ownAddr] using fits
    · rw [enterConflict_lnk, enterConflict_rli]
      refine ⟨rfl, rfl, ?_⟩
      split
      · rfl
      case isFalse none => simpa using none
  unfold conflictReport
  split
  · exact kept
  · exact kept
  all_goals exact entered

/-! ## The ends of an attempt and of a frame -/

/-- An attempt in flight has no holdoff behind it, and stands inside a frame. -/
theorem LinkFits.in_flight (fits : LinkFits own r l) {f : TxFrame} (flies : r.tx = some f) :
    l.link = .sending ∧ r.rx = .inFrame ∧ l.holdoff = none ∧ l.attempts < 4 := by
  have sends : l.link = .sending := fits.sends.2 (by rw [flies]; rfl)
  have matched := fits.matched
  simp only [Matched, sends] at matched
  obtain ⟨none, few⟩ := fits.no_holdoff (by simp [sends]) (by simp [sends])
  exact ⟨sends, matched, none, few⟩

theorem linkKept_attemptComplete {f : TxFrame} (flies : s.rli.tx = some f) (kept : LinkKept s) : LinkKept (attemptComplete f.kind s) := by
  obtain ⟨fits, still⟩ := kept
  obtain ⟨-, rx, none, -⟩ := fits.in_flight flies
  have run := timersRun_toSeekQuiet (fits.timers (by simp [rx]))
  have silent (link : s.lnk.renewed = true) : f.kind = .status := by simpa [statusSent, flies] using fits.renewed link
  cases kind : f.kind with
  | event =>
    refine ⟨linkFits_of_none rfl nofun rfl (le_trans (by simp [attemptComplete]) fits.length)
      (holdoffFits_of_none none (Nat.zero_lt_succ 3)) ?_ nofun run, fun conflict => ?_⟩
    · refine Bool.eq_false_iff.2 fun renewed => ?_
      rw [silent renewed] at kind
      cases kind
    · rw [(still conflict).2.2] at flies
      cases flies
  | status =>
    refine ⟨linkFits_of_none rfl nofun rfl fits.length (holdoffFits_of_none none (Nat.zero_lt_succ 3)) rfl nofun run, fun conflict => ?_⟩
    rw [(still conflict).2.2] at flies
    cases flies

theorem linkKept_attemptLost {f : TxFrame} (flies : s.rli.tx = some f) (kept : LinkKept s) : LinkKept (attemptLost s) := by
  obtain ⟨fits, still⟩ := kept
  obtain ⟨-, rx, none, few⟩ := fits.in_flight flies
  exact ⟨linkFits_of_none rfl nofun rx fits.length (holdoffFits_of_none none few) rfl (by simp [rx]) (fits.timers (by simp [rx])),
    LinkStill.less (s := s) rfl id id (fun _ => rfl) still⟩

theorem linkKept_attemptBitError {f : TxFrame} (flies : s.rli.tx = some f) (kept : LinkKept s) : LinkKept (attemptBitError s) := by
  obtain ⟨fits, still⟩ := kept
  obtain ⟨-, rx, none, few⟩ := fits.in_flight flies
  have run := timersRun_toSeekQuiet (fits.timers (by simp [rx]))
  have other : s.sup.mode ≠ .conflict := fun conflict => by simp [(still conflict).2.2] at flies
  refine ⟨?_, linkStill_of_other (by simpa using other)⟩
  simp only [attemptBitError]
  split
  case isTrue below => exact linkFits_of_none rfl nofun rfl fits.length (holdoffFits_of_none none below) rfl nofun run
  case isFalse fourth =>
    have four : s.lnk.attempts + 1 = 4 := by omega
    refine linkFits_of_none rfl nofun ⟨.inl rfl, rfl⟩ fits.length ?_ rfl nofun run
    exact ⟨four.le, ⟨fun _ => rfl, fun _ => four⟩, fun _ => .inl rfl⟩

theorem linkKept_sortFrame (f : RxFrame) (awake : s.rli.rx ≠ .off) (kept : LinkKept s) : LinkKept (sortFrame f s) := by
  unfold sortFrame
  split
  · exact ⟨kept.1.link rfl rfl rfl kept.1.length (fun f q queue => ⟨q, queue⟩) .inl, LinkStill.less (s := s) rfl id id id kept.2⟩
  · split
    · exact linkKept_conflictReport awake kept
    · exact linkKept_takeFrame kept

theorem linkKept_handGoodFrame (bytes : List Byte) (rx : s.rli.rx = .inFrame) (kept : LinkKept s) : LinkKept (handGoodFrame bytes s) := by
  unfold handGoodFrame
  split
  case h_1 f flies => exact linkKept_attemptComplete flies kept
  case h_2 silent =>
    refine linkKept_sortFrame _ nofun ⟨?_, LinkStill.less (s := s) rfl id id (fun _ => rfl) kept.2⟩
    have renewed := kept.1.renewed_false fun sends => by simpa [silent] using kept.1.sends.1 sends
    have ended : LinkFits (ownAddress s) (toSeekQuiet s.rli) { s.lnk with link := linkAfterFrame s.lnk.link } := by
      simpa [← renewed] using linkFits_frameEnded kept.1 rx s.lnk.lastError s.lnk.queue s.lnk.statusPending kept.1.length
    exact ended

theorem linkKept_endFrame (check : Byte) (bytes : List Byte) (rx : s.rli.rx = .inFrame) (kept : LinkKept s) :
    LinkKept (endFrame check bytes s) := by
  unfold endFrame
  split
  · exact linkKept_handGoodFrame bytes rx kept
  · exact linkKept_receptionError _ rx kept

theorem linkKept_takeBit (bit : Bool) (rx : s.rli.rx = .inFrame) (kept : LinkKept s) : LinkKept (takeBit bit s) := by
  have assembled (a : Assembly) : LinkKept (s.mapRli fun r => { r with frame := a }) :=
    linkKept_line rfl rfl (by simp [rx]) id kept
  simp only [takeBit]
  split
  · split
    · exact linkKept_receptionError _ rx kept
    · exact assembled _
  · split
    · exact assembled _
    · split
      · exact linkKept_receptionError _ rx kept
      · split
        · exact linkKept_receptionError _ rx kept
        · split
          · exact linkKept_endFrame _ _ rx kept
          · exact assembled _

theorem linkKept_sampleCell (rx : s.rli.rx = .inFrame) (kept : LinkKept s) : LinkKept (sampleCell s) := by
  have sampled : LinkKept (s.mapRli fun r => { r with cell := r.cell.map fun c => { c with sampled := true } }) :=
    linkKept_line rfl rfl (by simp [rx]) id kept
  simp only [sampleCell]
  split
  case h_1 f flies =>
    split
    · exact linkKept_takeBit _ rx sampled
    · split
      · exact linkKept_takeBit _ rx (linkKept_attemptLost flies sampled)
      · exact linkKept_attemptBitError flies sampled
  · exact linkKept_takeBit _ rx sampled

/-! ## Edges -/

/-- What an offer says of the link and the mode (R45, R46). -/
theorem standingOffer_some {kind : TxKind} (offer : standingOffer s = some kind) :
    s.lnk.link = .idle ∧ s.sup.mode ≠ .conflict ∧ (kind = .event → ∃ f q, s.lnk.queue = f :: q) := by
  unfold standingOffer at offer
  split at offer
  case isTrue idle =>
    split at offer
    case isTrue sends =>
      refine ⟨idle, fun conflict => by simp [conflict, isSending] at sends, ?_⟩
      split at offer
      case h_1 f q queue => exact fun _ => ⟨f, q, queue⟩
      · split at offer <;> cases offer
        exact nofun
    · split at offer
      case isTrue parked =>
        refine ⟨idle, by simp [parked], ?_⟩
        split at offer <;> cases offer
        case h_1 q queue => exact fun _ => ⟨_, q, queue⟩
      · cases offer
  · cases offer

theorem linkKept_startAttempt {ago : Nat} {kind : TxKind} (short : ago ≤ 160) (offer : standingOffer s = some kind)
    (kept : LinkKept s) : LinkKept (startAttempt ago kind s) := by
  obtain ⟨fits, still⟩ := kept
  obtain ⟨idle, other, queued⟩ := standingOffer_some offer
  obtain ⟨none, few⟩ := fits.no_holdoff (by simp [idle]) (by simp [idle])
  have renewed := fits.renewed_false (by simp [idle])
  refine ⟨⟨rfl, ⟨fun _ => rfl, fun _ => rfl⟩, ?_, fits.length, holdoffFits_of_none none few, ?_, nofun,
    fun _ => ⟨short, rfl⟩⟩, linkStill_of_other other⟩
  · rintro f ⟨⟩ event
    cases kind with
    | event =>
      obtain ⟨f, q, queue⟩ := queued rfl
      exact ⟨f, q, queue, by simp [composeFrame, queue, startAttempt, ownAddress]⟩
    | status => cases event
  · intro now
    rw [startAttempt] at now
    exact absurd (renewed.symm.trans now) nofun

theorem linkKept_startReceiving {ago : Nat} (short : ago ≤ 160) (rx : s.rli.rx = .idle) (kept : LinkKept s) :
    LinkKept (startReceiving ago s) := by
  obtain ⟨fits, still⟩ := kept
  have none : s.rli.tx = none := fits.tx_none fun sends => by
    have matched := fits.matched
    simp [Matched, sends, rx] at matched
  have run : TimersRun (enterFrame ago s.rli) := ⟨short, rfl⟩
  have length := fits.length
  have renewed := fits.renewed_false fun sends => by simpa [none] using fits.sends.1 sends
  have kept : LinkFits (ownAddress s) (enterFrame ago s.rli)
      { s.lnk with link := if s.lnk.link = .holdoff then .holdoff else .receiving } := by
    obtain idle | held := fits.of_idle rx
    · obtain ⟨stopped, few⟩ := fits.no_holdoff (by simp [idle]) (by simp [idle])
      simp only [idle, reduceCtorEq, if_false]
      exact linkFits_of_none none nofun rfl length (holdoffFits_of_none stopped few) renewed nofun run
    · have fit := fits.holdoff
      simp only [held, if_true]
      exact linkFits_of_none none nofun ⟨.inr (.inr rfl), (fits.in_holdoff held).1⟩ length (by simpa [HoldoffFits, held] using fit)
        renewed nofun run
  exact ⟨kept, LinkStill.less (s := s) rfl id id id still⟩

theorem linkKept_fallingEdge (held : Nat) (kept : LinkKept s) : LinkKept (fallingEdge held s) := by
  have short := filterDelay_le s.sup.cfg
  simp only [fallingEdge]
  split
  · exact kept
  · split
    case h_1 rx =>
      refine ⟨?_, kept.2⟩
      exact kept.1.line rfl rfl (fun _ => ⟨rfl, rfl⟩) fun awake => absurd rx awake
    case h_2 rx =>
      unfold startEdgeTaken
      split
      case h_1 kind offer => exact linkKept_startAttempt short offer kept
      · exact linkKept_startReceiving short rx kept
    case h_3 rx =>
      refine linkKept_line ?_ ?_ (by simp [rx]) (fun _ => timersRun_fallInFrame short _) kept
      all_goals
        unfold fallInFrame
        split
        · split <;> rfl
        · rfl
    case h_4 rx => exact linkKept_line rfl rfl (by simp [rx]) (fun _ => timersRun_takeFall short _) kept
    case h_5 rx => exact linkKept_line rfl rfl (by simp [rx]) (fun _ => timersRun_takeFall short _) kept

theorem linkKept_risingEdge (held : Nat) (kept : LinkKept s) : LinkKept (risingEdge held s) := by
  unfold risingEdge
  split
  · exact kept
  · refine ⟨kept.1.line rfl rfl (fun off => ?_) fun _ run => timersRun_takeRise (filterDelay_le _) run, kept.2⟩
    obtain ⟨quiet, lowTime⟩ := kept.1.off off
    simp [takeRise, quietAtRise, quiet, lowTime]

/-! ## Quiet, a stuck line, and the timers of the link -/

theorem linkKept_quietReached (kept : LinkKept s) : LinkKept (quietReached s) := by
  obtain ⟨fits, still⟩ := kept
  have run (r : RowLine) : TimersRun { r with rx := .idle, lineLow := false, lowTime := none, quiet := .running 160 } := ⟨le_refl 160, rfl⟩
  have length := fits.length
  have fit := fits.holdoff
  have none (rx : s.rli.rx ≠ .inFrame) : s.lnk.link ≠ .sending := fun sends => rx (by simpa [Matched, sends] using fits.matched)
  simp only [quietReached]
  split
  case h_1 rx =>
    have silent := none (by simp [rx])
    refine ⟨?_, LinkStill.less (s := s) rfl id id id still⟩
    obtain waits | held := fits.of_seekQuiet rx
    · obtain ⟨stopped, few⟩ := fits.no_holdoff (by simp [waits]) (by simp [waits])
      simp only [State.mapLnk, State.mapRli, waits, if_true]
      exact linkFits_of_none (fits.tx_none silent) nofun rfl length (holdoffFits_of_none stopped few) (fits.renewed_false silent) nofun (run _)
    · simp only [State.mapLnk, State.mapRli, held, reduceCtorEq, if_false]
      exact linkFits_of_none (fits.tx_none silent) nofun ⟨.inr (.inl rfl), (fits.in_holdoff held).1⟩ length
        (by simpa [HoldoffFits, held] using fit) (fits.renewed_false silent) nofun (run _)
  case h_2 rx =>
    have silent := none (by simp [rx])
    have fault := fits.of_stuck rx
    refine ⟨?_, LinkStill.less (s := s) rfl id id id still⟩
    by_cases runs : s.lnk.holdoff.isSome = true
    · simp only [State.mapLnk, State.mapRli, runs, if_true]
      exact linkFits_of_none (fits.tx_none silent) nofun ⟨.inr (.inl rfl), runs⟩ length ⟨fit.1, fit.2.1, fun _ => .inl rfl⟩
        (fits.renewed_false silent) nofun (run _)
    · have stopped : s.lnk.holdoff = Option.none := Option.not_isSome_iff_eq_none.1 runs
      simp only [State.mapLnk, State.mapRli, runs]
      refine linkFits_of_none (fits.tx_none silent) nofun rfl length (holdoffFits_of_none stopped ?_) (fits.renewed_false silent) nofun (run _)
      exact lt_of_le_of_ne fit.1 fun four => by simpa [stopped] using fit.2.1.1 four
  all_goals exact ⟨fits, still⟩

theorem linkKept_lineStuck (kept : LinkKept s) : LinkKept (lineStuck s) := by
  obtain ⟨fits, still⟩ := kept
  simp only [lineStuck]
  split
  · exact ⟨fits, still⟩
  case isFalse silent =>
    have none : s.rli.tx = none := Option.not_isSome_iff_eq_none.1 silent
    have notSending : s.lnk.link ≠ .sending := fun sends => silent (fits.sends.1 sends)
    have fit := fits.holdoff
    have stuck : LinkKept ((s.mapRli fun r => { toSeekQuiet { r with lineLow := true } with rx := .stuck, quiet := .awaitRise }).mapLnk
        fun l => { l with link := .lineFault, lastError := .lineStuck }) :=
      ⟨linkFits_of_none rfl nofun rfl fits.length ⟨fit.1, fit.2.1, fun _ => .inr rfl⟩ (fits.renewed_false notSending) nofun ⟨rfl, rfl⟩,
        LinkStill.less (s := s) rfl id id (fun _ => rfl) still⟩
    split
    · exact stuck
    · exact stuck
    · exact stuck
    · exact ⟨fits, still⟩
    · exact ⟨fits, still⟩

theorem linkKept_holdoffExpiry (kept : LinkKept s) : LinkKept (holdoffExpiry s) := by
  obtain ⟨fits, still⟩ := kept
  unfold holdoffExpiry
  split
  case h_1 runs =>
    have state := fits.holdoff.2.2 (by rw [runs]; rfl)
    have notSending : s.lnk.link ≠ .sending := by obtain held | fault := state <;> simp_all
    have matched := fits.matched
    have awake : s.rli.rx ≠ .off := fun off => by obtain held | fault := state <;> simp_all [Matched]
    have fit : LinkFits (ownAddress s) s.rli { s.lnk with
        attempts := 0, holdoff := none, link := if s.lnk.link = .holdoff then matchReceiver s.rli.rx else s.lnk.link } := by
      refine linkFits_of_none (fits.tx_none notSending) ?_ ?_ fits.length (holdoffFits_of_none rfl (Nat.zero_lt_succ 3))
        (fits.renewed_false notSending) awake (fits.timers awake)
      · split
        · cases s.rli.rx <;> simp [matchReceiver]
        · exact notSending
      · unfold Matched at matched ⊢
        obtain held | fault := state
        · simp only [held, if_true]
          cases rx : s.rli.rx <;> simp [matchReceiver]
        · simpa [fault] using matched
    exact ⟨fit, LinkStill.less (s := s) rfl id id id still⟩
  · exact ⟨fits, still⟩

theorem linkKept_announceTimerExpiry (announces : s.lnk.announce.isSome = isSending s.sup.mode) (kept : LinkKept s) :
    LinkKept (announceTimerExpiry s) := by
  unfold announceTimerExpiry
  split
  case h_1 runs =>
    have other : s.sup.mode ≠ .conflict := fun conflict => by simp [runs, conflict, isSending] at announces
    have restarted : LinkKept (s.mapLnk fun l => { l with announce := some (msec s.sup.cfg.pAnn) }) :=
      linkKept_link other rfl rfl rfl kept.1.length (fun f q queue => ⟨q, queue⟩) .inl kept
    exact linkKept_link (s := s.mapLnk _) other rfl rfl rfl kept.1.length (fun f q queue => ⟨q, queue⟩)
      (fun now => Bool.or_eq_true_iff.1 now) restarted
  · exact kept

/-! ## The commands of the row line -/

theorem rx_of_receivingFrame (receives : receivingFrame s = true) : s.rli.rx = .inFrame := by
  unfold receivingFrame at receives
  simp only [Bool.and_eq_true, decide_eq_true_eq] at receives
  exact receives.1

theorem rx_of_frameAdmitted {bytes : List Byte} (admitted : frameAdmitted bytes s = true) : s.rli.rx = .inFrame := by
  unfold frameAdmitted at admitted
  simp only [Bool.and_eq_true, decide_eq_true_eq] at admitted
  exact admitted.1.1.1.1

@[simp] theorem sampledLine_rx (current low : Bool) (r : RowLine) : (sampledLine current low r).rx = r.rx := by cases current <;> rfl

@[simp] theorem sampledLine_tx (current low : Bool) (r : RowLine) : (sampledLine current low r).tx = r.tx := by cases current <;> rfl

theorem linkKept_lineCommand {c : Instr} (line : isLineCommand c = true) (announces : s.lnk.announce.isSome = isSending s.sup.mode)
    (kept : LinkKept s) : LinkKept (after c s) := by
  cases c with
  | announceTimerExpiry => exact linkKept_announceTimerExpiry announces kept
  | holdoffExpiry => exact linkKept_holdoffExpiry kept
  | attemptStart =>
    simp only [after, attemptStart]
    split
    · split
      case h_1 kind offer => exact linkKept_startAttempt (Nat.zero_le _) offer kept
      · exact kept
    · exact kept
  | startEdge held => exact linkKept_fallingEdge held kept
  | rowFallingEdge held => exact linkKept_fallingEdge held kept
  | rowRisingEdge held => exact linkKept_risingEdge held kept
  | quiet => exact linkKept_quietReached kept
  | lineStuck => exact linkKept_lineStuck kept
  | gapTimeout =>
    simp only [after, gapTimeout]
    split
    case isTrue receives => exact linkKept_receptionError _ (rx_of_receivingFrame receives) kept
    · exact kept
  | frameError cell =>
    simp only [after, frameError]
    split
    case isTrue receives =>
      have rx := rx_of_receivingFrame receives
      exact linkKept_receptionError _ (by simpa using rx)
        (linkKept_line (by simp) (by simp) (by simp [rx]) (timersRun_sampledLine _ _) kept)
    · exact kept
  | lengthError len =>
    simp only [after, lengthError]
    split
    case isTrue receives =>
      simp only [Bool.and_eq_true] at receives
      have rx := rx_of_receivingFrame receives.1.1
      exact linkKept_receptionError _ (by simpa using rx)
        (linkKept_line (by simp) (by simp) (by simp [rx]) (timersRun_sampledLine _ _) kept)
    · exact kept
  | goodFrame bytes =>
    simp only [after, goodFrame]
    split
    case isTrue admitted =>
      have rx := rx_of_frameAdmitted admitted
      exact linkKept_updateAttn (linkKept_endFrame _ _ (by simpa using rx)
        (linkKept_line (by simp) (by simp) (by simp [rx]) (timersRun_sampledLine _ _) kept))
    · exact kept
  | lostArbitration n =>
    simp only [after, lostArbitration]
    split
    case h_1 f rx flies =>
      split
      · exact linkKept_attemptLost (f := f) (by simpa using flies)
          (linkKept_line (by simp) (by simp) (by simp [rx]) (timersRun_sampledLine _ _) kept)
      · exact kept
    · exact kept
  | bitError sampled =>
    simp only [after, bitError]
    split
    case h_1 f rx flies =>
      exact linkKept_attemptBitError (f := f) (by simpa using flies)
        (linkKept_line (by simp) (by simp) (by simp [rx]) (timersRun_sampledLine _ _) kept)
    · exact kept
  | cellSamplePoint =>
    simp only [after, cellSamplePoint]
    split
    case h_1 c rx cell =>
      split
      · exact kept
      · exact linkKept_updateAttn (linkKept_sampleCell rx kept)
    · exact kept
  | transmitCellEdge =>
    simp only [after, transmitCellEdge]
    split
    case h_1 f c rx flies cell =>
      split
      · refine linkKept_line ?_ ?_ (by simp [rx]) (fun run => timersRun_beginCell 0 (timersRun_ownEdge run)) kept
        all_goals
          simp only [beginCell, ownEdge]
          split <;> rfl
      · exact kept
    · exact kept
  | driveRelease =>
    exact ⟨kept.1.line rfl rfl (fun _ => ⟨rfl, rfl⟩) fun _ => id, kept.2⟩
  | _ => cases line

/-! ## Every command, and time -/

theorem linkKept_loadEnd (image : List Byte) (starting : StartingSafe s) (kept : LinkKept s) : LinkKept (loadEnd image s) := by
  unfold loadEnd
  split
  case isTrue loading =>
    have mode : s.sup.mode = .starting := starting.1.2 (.inr loading)
    obtain ⟨-, rli, lnk, -⟩ := starting.2.2.2 mode
    have started : LinkKept (endStarting (installConfig (loadImage image) s)) := by
      refine ⟨?_, linkStill_of_other (by simp [endStarting, installConfig, mode])⟩
      have fits : LinkFits (ownAddress s) (startReceiver s.rli) { s.lnk with link := .waitQuiet } := by
        rw [rli, lnk]
        refine linkFits_of_none rfl nofun rfl (Nat.zero_le 4) (holdoffFits_of_none rfl (Nat.zero_lt_succ 3)) rfl nofun ⟨Nat.zero_le 160, ?_⟩
        cases low : s.rli.lineLow <;> simp [startReceiver, toSeekQuiet, State.reset]
      exact fits
    exact linkKept_updateAttn (linkKept_enterJoining started)
  · exact kept

/-- In OFF nothing of the link runs. -/
theorem linkFits_off (own : Address) (low : Bool) : LinkFits own { State.reset.rli with lineLow := low } State.reset.lnk where
  matched := rfl
  sends := by simp [State.reset]
  head := nofun
  length := Nat.zero_le 4
  holdoff := holdoffFits_of_none rfl (Nat.zero_lt_succ 3)
  renewed := nofun
  off _ := ⟨rfl, rfl⟩
  timers awake := absurd rfl awake

theorem linkKept_after (c : Instr) (starting : StartingSafe s) (announces : s.lnk.announce.isSome = isSending s.sup.mode)
    (kept : LinkKept s) : LinkKept (after c s) := by
  have released {f : State → State} : LinkKept (f s) → LinkKept (whenReleased f s) := whenReleased_keeps kept
  have noticed (f : Roster → Roster) : LinkKept (changeNotice (s.mapRos f)) :=
    linkKept_evalContainment (linkKept_of_same (s := s) rfl rfl rfl rfl kept)
  have read {c : Instr} (hc : isReadCommand c = true) : LinkKept (after c s) := by
    obtain ⟨f, eq, -⟩ := after_read hc s
    exact eq ▸ linkKept_svc f kept
  cases c with
  | reset => exact ⟨linkFits_off _ _, linkStill_of_other nofun⟩
  | resetRelease addr seg =>
    simp only [after, resetRelease]
    split
    case isTrue held =>
      have mode : s.sup.mode = .starting := starting.1.2 (.inl held)
      obtain ⟨-, rli, lnk, -⟩ := starting.2.2.2 mode
      refine ⟨?_, linkStill_of_other (by simp [mode])⟩
      simp only [State.mapClk_rli, State.mapClk_lnk, State.mapSup_rli, State.mapSup_lnk]
      rw [rli, lnk]
      exact linkFits_off _ _
    · exact kept
  | loadEnd image => exact linkKept_loadEnd image starting kept
  | joinTimerExpiry =>
    simp only [after, joinTimerExpiry]
    have stopped : LinkKept (s.mapSup fun p => { p with joinTimer := none }) := linkKept_failed rfl rfl kept
    split
    · split
      · split
        · exact linkKept_updateAttn (linkKept_goActive stopped)
        · exact linkKept_failed rfl rfl stopped
        · exact stopped
        · exact stopped
      · exact stopped
    · exact kept
  | entryStale addr =>
    simp only [after, entryStale]
    split
    · split
      · exact linkKept_updateAttn (noticed _)
      · exact kept
    · exact kept
  | entryRemoval addr =>
    simp only [after, entryRemoval]
    split
    · exact linkKept_updateAttn (noticed _)
    · exact kept
  | windowExpiry u => exact linkKept_watch.expires s u kept
  | release =>
    simp only [after, releaseCommand]
    refine released ?_
    split
    · split
      · exact linkKept_svc _ kept
      · have went := linkKept_goActive (linkKept_watch.leaves s (fun _ => true) kept)
        have opened := linkKept_of_same (t := openRequest (goActive (leaveFiredWhere (fun _ => true) s))) (by simp) (by simp) (by simp) (by simp) went
        simp only [answer, acceptRelease]
        refine linkKept_svc _ (linkKept_updateAttn (linkKept_queueEvent _ ?_ opened))
        rw [openRequest_sup, goActive_mode]
        split <;> simp
    · exact linkKept_svc _ kept
  | acknowledge =>
    simp only [after, acknowledgeCommand]
    exact released (linkKept_svc _ (linkKept_updateAttn (linkKept_watch.leaves s _ kept)))
  | scan =>
    simp only [after, scanCommand]
    refine released ?_
    split
    · exact linkKept_svc _ (linkKept_triggers kept)
    · exact linkKept_svc _ kept
  | unpark =>
    simp only [after, unparkCommand]
    refine released ?_
    split
    · exact linkKept_svc _ (linkKept_updateAttn (linkKept_enterJoining kept))
    · exact linkKept_svc _ kept
  | park =>
    simp only [after, parkCommand]
    refine released ?_
    split
    · have queued : LinkKept (queueEvent .leave (closeRequest (changeMode .parked s))) :=
        linkKept_queueEvent _ (by simp) (linkKept_closeRequest (linkKept_changeMode (by simp) kept))
      have quiet := linkKept_link (g := fun l => { l with statusPending := false, renewed := false }) (by simp) rfl rfl rfl queued.1.length
        (fun f q queue => ⟨q, queue⟩) (by simp) queued
      refine linkKept_svc _ (linkKept_updateAttn ?_)
      exact linkKept_of_same (by simp) (by simp) (by simp) (by simp) quiet
    · exact linkKept_svc _ kept
  | freeze =>
    simp only [after, freezeCommand]
    exact released (linkKept_of_same (s := s) rfl rfl rfl rfl kept)
  | resume =>
    simp only [after, resumeCommand]
    refine released ?_
    split <;> exact linkKept_of_same (s := s) rfl rfl rfl rfl kept
  | conversionEnd code =>
    simp only [after, conversionEnd]
    split
    · exact kept
    · split
      · exact linkKept_measure _ kept
      · exact linkKept_updateAttn (linkKept_deliverSet _ (linkKept_measure _ kept))
  | periodStart | pullInExpiry =>
    simp only [after, periodStart, pullInExpiry]
    split <;> exact linkKept_of_same (s := s) rfl rfl rfl rfl kept
  | strokeTimerExpiry =>
    simp only [after, strokeTimerExpiry]
    split
    · refine linkKept_updateAttn ?_
      split <;> exact linkKept_of_same (s := s) (by simp) (by simp) (by simp) (by simp) kept
    all_goals exact kept
  | scanTimerExpiry =>
    simp only [after, scanTimerExpiry]
    split <;> exact linkKept_of_same (s := s) rfl rfl rfl rfl kept
  | referencePhaseEnd ticks =>
    simp only [after, referencePhaseEnd]
    split <;> exact linkKept_of_same (s := s) rfl rfl rfl rfl kept
  | referenceFault => exact linkKept_referenceFault kept
  | sensorPhaseEnd cycles =>
    simp only [after, sensorPhaseEnd]
    split
    · split
      · exact linkKept_updateAttn (linkKept_afterSensorPhase _ (linkKept_deliverReading _ kept))
      · exact kept
    all_goals exact kept
  | counterOverflow =>
    simp only [after, counterOverflow]
    split
    · exact linkKept_updateAttn (linkKept_afterSensorPhase _ (linkKept_deliverReading _ kept))
    all_goals exact kept
  | acquisitionTimerExpiry =>
    simp only [after, acquisitionTimerExpiry]
    split
    · exact linkKept_measure _ kept
    · exact kept
  | flowRisingEdge ticks =>
    simp only [after, flowRisingEdge]
    split
    · exact kept
    · split
      · exact linkKept_measure _ kept
      · split
        · exact kept
        · exact linkKept_measure _ kept
  | noFlow =>
    simp only [after, noFlow]
    split
    · exact linkKept_measure _ kept
    · exact kept
  | ident | station | zones | watch | roster | captureInfo | capture | badRequest | serviceRead => exact read rfl
  | _ => exact linkKept_lineCommand rfl announces kept

theorem linkKept_tick (kept : LinkKept s) : LinkKept (tickState s) := by
  obtain ⟨fits, still⟩ := kept
  have ticked : LinkFits (ownAddress s) (tickRowLine s.rli) s.lnk := by
    refine fits.line rfl rfl (fun off => ?_) fun _ => timersRun_tick
    obtain ⟨quiet, lowTime⟩ := fits.off off
    simp [tickRowLine, tickQuiet, tickUp, quiet, lowTime]
  exact ⟨ticked.link rfl rfl (by simp [tickState, tickLink, tickDown]) fits.length (fun f q queue => ⟨q, queue⟩) .inl,
    LinkStill.less (s := s) rfl id id id still⟩

/-- Settles O52: the commands of the row line act by the receiver's state, all others leave the row line and keep the queue's head. -/
theorem linkIsKept : Obligations.LinkIsKept := by
  unfold Obligations.LinkIsKept
  intro s t starting modes safe stepped
  rw [linkSafe_iff] at safe ⊢
  exact step_leads (Q := fun s => StartingSafe s ∧ ModeSafe s ∧ LinkKept s) (P := LinkKept) (fun _ _ => id) (fun _ _ => id)
    (fun _ q => q.2.2) (fun c _ q => linkKept_after c q.1 q.2.1.1 q.2.2) (fun _ q => linkKept_tick q.2.2) ⟨starting, modes, safe⟩ stepped

end Sys2Proof.Machine
end

section
/-! PROOF. What the link offers, and how a frame begins (R35, R45 to R48): O12 and O23. -/

namespace Sys2Proof.Machine

open Safety

variable {s t : State}

/-! ## The offer -/

theorem isSending_iff {m : Mode} : isSending m = true ↔ m = .active ∨ m = .contained ∨ m = .isolated := by
  cases m <;> simp [isSending]

theorem offer_event_iff :
    standingOffer s = some .event ↔
      s.lnk.link = .idle ∧ s.lnk.queue ≠ [] ∧
        ((s.sup.mode = .active ∨ s.sup.mode = .contained ∨ s.sup.mode = .isolated) ∨
          (s.sup.mode = .parked ∧ s.lnk.queue.head? = some .leave)) := by
  rw [← isSending_iff]
  unfold standingOffer
  by_cases idle : s.lnk.link = .idle
  · by_cases sends : isSending s.sup.mode = true
    · cases queue : s.lnk.queue <;> simp [idle, sends]
    · by_cases parked : s.sup.mode = .parked
      · simp only [if_pos idle, if_neg sends, if_pos parked]
        cases queue : s.lnk.queue with
        | nil => simp [sends]
        | cons g q => cases g <;> simp [idle, parked, isSending]
      · simp [idle, sends, parked]
  · simp [idle]

theorem offer_status_iff :
    standingOffer s = some .status ↔
      s.lnk.link = .idle ∧ s.lnk.queue = [] ∧ s.lnk.statusPending = true ∧
        (s.sup.mode = .active ∨ s.sup.mode = .contained ∨ s.sup.mode = .isolated) := by
  rw [← isSending_iff]
  unfold standingOffer
  by_cases idle : s.lnk.link = .idle
  · by_cases sends : isSending s.sup.mode = true
    · cases queue : s.lnk.queue <;> simp [idle, sends]
    · by_cases parked : s.sup.mode = .parked
      · simp only [if_pos idle, if_neg sends, if_pos parked]
        cases queue : s.lnk.queue with
        | nil => simp [sends]
        | cons g q => cases g <;> simp [idle, parked, isSending]
      · simp [idle, sends, parked]
  · simp [idle]

/-! ## The start edge -/

/-- The state at a start edge that came `ago` µs before (R22, R26, R47, R48). -/
theorem startAttempt_eq (ago : Nat) (kind : TxKind) (s : State) :
    startAttempt ago kind s =
      { s with
        rli := { s.rli with
          driver := some (15 - ago), lineLow := true, rx := .inFrame, quiet := .running ago, lowTime := some ago,
          cell := some { age := ago, sampled := false }, frame := { taken := [], cells := 0, shift := 0, check := 0xFF },
          tx := some (composeFrame kind s) }
        lnk := { s.lnk with link := .sending } } := rfl

theorem fallingEdge_taken {held : Nat} (high : s.rli.lineLow = false) (taken : s.sup.cfg.rxFilter = true → 2 ≤ held)
    (idle : s.rli.rx = .idle) : fallingEdge held s = startEdgeTaken (filterDelay s.sup.cfg) s := by
  simp [fallingEdge, (edgeTaken_iff s.sup.cfg held).2 taken, high, idle]

/-- Settles O12: the offer by mode and queue, and the one state that each start edge leads to. -/
theorem offerStandsByModeAndStartsAtTheStartEdge : Obligations.OfferStandsByModeAndStartsAtTheStartEdge := by
  unfold Obligations.OfferStandsByModeAndStartsAtTheStartEdge
  refine ⟨fun s => ⟨offer_event_iff, offer_status_iff⟩, fun s kind idle offer => ?_⟩
  have joined {held : Nat} (high : s.rli.lineLow = false) (taken : s.sup.cfg.rxFilter = true → 2 ≤ held) :
      fallingEdge held s = startAttempt (filterDelay s.sup.cfg) kind s := by
    simp [fallingEdge_taken high taken idle, startEdgeTaken, offer]
  refine ⟨?_, fun held high => ⟨fun off => ?_, fun on long => ?_⟩⟩
  · simp [exec_eq_after, after, attemptStart, idle, offer, startAttempt_eq]
  · simp [exec_eq_after, after, joined high (by simp [off]), filterDelay_off _ off, startAttempt_eq]
  · simp [exec_eq_after, after, joined high fun _ => long, filterDelay_on _ on, startAttempt_eq]

/-! ## No other command begins a frame (R48) -/

/-- The state has no frame in flight. -/
def NoFrame (s : State) : Prop := s.rli.tx = none

theorem noFrame_of_same (rli : t.rli = s.rli) (none : NoFrame s) : NoFrame t := by
  unfold NoFrame
  rwa [rli]

theorem noFrame_conflictReport (none : NoFrame s) : NoFrame (conflictReport s) := by
  have entered : NoFrame (enterConflict s) := by
    unfold NoFrame
    rw [enterConflict_rli]
    split
    · rfl
    · exact none
  unfold conflictReport
  split
  · exact none
  · exact none
  all_goals exact entered

theorem noFrame_sortFrame (f : RxFrame) (none : NoFrame s) : NoFrame (sortFrame f s) := by
  unfold sortFrame
  split
  · exact none
  · split
    · exact noFrame_conflictReport none
    · exact noFrame_of_same (takeFrame_rli ..) none

theorem noFrame_endFrame (check : Byte) (bytes : List Byte) (s : State) : NoFrame (endFrame check bytes s) := by
  unfold endFrame handGoodFrame
  split
  · split
    · rfl
    · exact noFrame_sortFrame _ rfl
  · rfl

theorem noFrame_takeBit (bit : Bool) (none : NoFrame s) : NoFrame (takeBit bit s) := by
  simp only [takeBit]
  split
  · split
    · rfl
    · exact none
  · split
    · exact none
    · split
      · rfl
      · split
        · rfl
        · split
          · exact noFrame_endFrame _ _ s
          · exact none

theorem noFrame_sampleCell (none : NoFrame s) : NoFrame (sampleCell s) := by
  simp only [sampleCell]
  split
  case h_1 f flies => exact absurd (none.symm.trans flies) nofun
  · exact noFrame_takeBit _ none

/-- A falling edge begins a frame only where one is offered on an idle line. -/
theorem begins_fallingEdge (held : Nat) (none : NoFrame s) :
    NoFrame (fallingEdge held s) ∨
      ∃ ago kind, standingOffer s = some kind ∧ s.rli.rx = .idle ∧ fallingEdge held s = startAttempt ago kind s := by
  simp only [fallingEdge]
  split
  · exact .inl none
  · split
    case h_2 idle =>
      unfold startEdgeTaken
      split
      case h_1 kind offer => exact .inr ⟨_, kind, offer, idle, rfl⟩
      · exact .inl none
    case h_3 =>
      refine .inl ?_
      unfold NoFrame
      simp only [State.mapRli_rli, fallInFrame]
      split
      · split <;> exact none
      · exact none
    all_goals exact .inl none

theorem begins_lineCommand {c : Instr} (line : isLineCommand c = true) (none : NoFrame s) :
    NoFrame (after c s) ∨ ∃ ago kind, standingOffer s = some kind ∧ s.rli.rx = .idle ∧ after c s = startAttempt ago kind s := by
  cases c with
  | startEdge held => exact begins_fallingEdge held none
  | rowFallingEdge held => exact begins_fallingEdge held none
  | attemptStart =>
    simp only [after, attemptStart]
    split
    case isTrue idle =>
      split
      case h_1 kind offer => exact .inr ⟨0, kind, offer, idle, rfl⟩
      · exact .inl none
    · exact .inl none
  | announceTimerExpiry =>
    refine .inl (noFrame_of_same ?_ none)
    simp only [after, announceTimerExpiry]
    split <;> rfl
  | holdoffExpiry =>
    refine .inl (noFrame_of_same ?_ none)
    simp only [after, holdoffExpiry]
    split <;> rfl
  | rowRisingEdge held =>
    refine .inl ?_
    simp only [after, risingEdge]
    split <;> exact none
  | quiet =>
    refine .inl ?_
    simp only [after, quietReached]
    split <;> exact none
  | lineStuck =>
    refine .inl ?_
    simp only [after, lineStuck]
    split
    · exact none
    · split
      case h_4 | h_5 => exact none
      all_goals rfl
  | gapTimeout =>
    refine .inl ?_
    simp only [after, gapTimeout]
    split
    · rfl
    · exact none
  | frameError cell =>
    refine .inl ?_
    simp only [after, frameError]
    split
    · rfl
    · exact none
  | lengthError len =>
    refine .inl ?_
    simp only [after, lengthError]
    split
    · rfl
    · exact none
  | goodFrame bytes =>
    refine .inl ?_
    simp only [after, goodFrame]
    split
    · exact noFrame_endFrame _ _ _
    · exact none
  | lostArbitration n =>
    refine .inl ?_
    simp only [after, lostArbitration]
    split
    · split
      · rfl
      · exact none
    · exact none
  | bitError sampled =>
    refine .inl ?_
    simp only [after, bitError]
    split
    case h_1 f rx flies => exact absurd (none.symm.trans flies) nofun
    · exact none
  | cellSamplePoint =>
    refine .inl ?_
    simp only [after, cellSamplePoint]
    split
    · split
      · exact none
      · exact noFrame_sampleCell none
    · exact none
  | transmitCellEdge =>
    refine .inl ?_
    simp only [after, transmitCellEdge]
    split
    case h_1 f k rx flies cell => exact absurd (none.symm.trans flies) nofun
    · exact none
  | driveRelease => exact .inl none
  | _ => cases line

@[simp] theorem referenceFault_rli (s : State) : (referenceFault s).rli = s.rli := by
  unfold referenceFault
  simp only
  repeat' split
  all_goals simp

@[simp] theorem acceptRelease_rli (s : State) : (acceptRelease s).rli = s.rli := by simp [acceptRelease]

@[simp] theorem acceptPark_rli (s : State) : (acceptPark s).rli = s.rli := by simp [acceptPark]

theorem whenReleased_rli {f : State → State} (same : (f s).rli = s.rli) : (whenReleased f s).rli = s.rli := by
  obtain ⟨-, eq⟩ | ⟨-, eq⟩ := whenReleased_cases f s
  all_goals rw [eq]
  exact same

/-- The commands that are not the row line's leave it, but for a reset and the end of the load. -/
theorem after_rli {c : Instr} (other : isLineCommand c = false) (reset : c ≠ .reset) (loads : ∀ image, c ≠ .loadEnd image) :
    (after c s).rli = s.rli := by
  have read {c : Instr} (hc : isReadCommand c = true) : (after c s).rli = s.rli := by
    obtain ⟨f, eq, -⟩ := after_read hc s
    rw [eq]
    rfl
  have answered (r : ResultCode) (item : List Byte) (t : State) : (answer r item t).rli = t.rli := rfl
  cases c with
  | reset => exact absurd rfl reset
  | loadEnd image => exact absurd rfl (loads image)
  | announceTimerExpiry | holdoffExpiry | attemptStart | startEdge | quiet | lineStuck | gapTimeout | frameError | lengthError
  | goodFrame | lostArbitration | bitError | cellSamplePoint | rowFallingEdge | rowRisingEdge | transmitCellEdge | driveRelease =>
    cases other
  | ident | station | zones | watch | roster | captureInfo | capture | badRequest | serviceRead =>
    exact read rfl
  | referenceFault => exact referenceFault_rli s
  | windowExpiry u =>
    simp only [after, windowExpiry]
    split <;> simp
  | acknowledge =>
    simp only [after, acknowledgeCommand]
    exact whenReleased_rli (by simp [answered])
  | freeze =>
    simp only [after, freezeCommand]
    exact whenReleased_rli (by simp [answered])
  | release =>
    simp only [after, releaseCommand]
    refine whenReleased_rli ?_
    split
    · split <;> simp [answered]
    · exact answered ..
  | scan | resume | park | unpark =>
    simp only [after, scanCommand, resumeCommand, parkCommand, unparkCommand]
    refine whenReleased_rli ?_
    split <;> simp [answered]
  | _ =>
    simp only [after, resetRelease, joinTimerExpiry, entryStale, entryRemoval, scanTimerExpiry, referencePhaseEnd, sensorPhaseEnd,
      counterOverflow, acquisitionTimerExpiry, conversionEnd, flowRisingEdge, noFlow, periodStart, pullInExpiry, strokeTimerExpiry]
    repeat' split
    all_goals simp

/-- A command leaves no frame in flight where none was, or is the start edge of an offer on an idle line. -/
theorem begins_after (c : Instr) (none : NoFrame s) :
    NoFrame (after c s) ∨ ∃ ago kind, standingOffer s = some kind ∧ s.rli.rx = .idle ∧ after c s = startAttempt ago kind s := by
  cases line : isLineCommand c with
  | true => exact begins_lineCommand line none
  | false =>
    by_cases reset : c = .reset
    · exact .inl (reset ▸ rfl)
    · by_cases loads : ∃ image, c = .loadEnd image
      · obtain ⟨image, rfl⟩ := loads
        refine .inl ?_
        simp only [after, loadEnd]
        split
        · simp [NoFrame, endStarting, startReceiver]
        · exact none
      · exact .inl (noFrame_of_same (after_rli line reset fun image eq => loads ⟨image, eq⟩) none)

/-- What an offer permits: any queued frame or a STATUS in the sending modes, a LEAVE in PARKED (R45, R48). -/
theorem composeFrame_of_offer {kind : TxKind} (offer : standingOffer s = some kind) :
    ((s.sup.mode = .active ∨ s.sup.mode = .contained ∨ s.sup.mode = .isolated) ∨
      (s.sup.mode = .parked ∧ (composeFrame kind s).bytes = eventBytes (ownAddress s) .leave)) ∧
    ((composeFrame kind s).kind = .event → ∃ g q, s.lnk.queue = g :: q ∧ (composeFrame kind s).bytes = eventBytes (ownAddress s) g) ∧
    ((composeFrame kind s).kind = .status → s.lnk.queue = [] ∧ s.lnk.statusPending = true) := by
  cases kind with
  | event =>
    obtain ⟨-, holds, modes⟩ := offer_event_iff.1 offer
    obtain ⟨g, q, queue⟩ := List.exists_cons_of_ne_nil holds
    refine ⟨modes.imp_right fun ⟨parked, head⟩ => ⟨parked, ?_⟩, fun _ => ⟨g, q, queue, by simp [composeFrame, queue]⟩, nofun⟩
    rw [queue] at head
    simp_all [composeFrame]
  | status =>
    obtain ⟨-, empty, pending, sends⟩ := offer_status_iff.1 offer
    exact ⟨.inl sends, nofun, fun _ => ⟨empty, pending⟩⟩

/-- Settles O23: only the three start edges put a frame in flight, each with what the offer says. -/
theorem frameBeginsOnlyByPermission : Obligations.FrameBeginsOnlyByPermission := by
  unfold Obligations.FrameBeginsOnlyByPermission
  intro c s t f ran none flies
  obtain rfl := eq_after_of_exec ran
  obtain still | ⟨ago, kind, offer, idle, begins⟩ := begins_after c none
  · exact absurd (still.symm.trans flies) nofun
  · rw [begins, startAttempt_eq] at flies ⊢
    obtain rfl := Option.some.inj flies
    obtain ⟨modes, event, status⟩ := composeFrame_of_offer offer
    exact ⟨(standingOffer_some offer).1, idle, rfl, rfl, modes, event, status⟩

end Sys2Proof.Machine
end

section
/-! PROOF. The events of the row line one by one (R21 to R31, R36 to R42, R50 to R55): what each leaves of the line and the link. O11, O13 to O18
and O20. -/

namespace Sys2Proof.Machine

open Safety

variable {s t : State}

/-! ## The timers of the link (R41, R52) -/

/-- Settles O11: each expiry by its timer, and the holdoff's by the link's state. -/
theorem announceAndHoldoffExpiry : Obligations.AnnounceAndHoldoffExpiry := by
  unfold Obligations.AnnounceAndHoldoffExpiry
  refine ⟨fun s n runs => ?_, fun s n runs => ⟨fun held => ?_, fun fault => ?_⟩⟩
  · simp only [exec_eq_after, after, announceTimerExpiry, runs]
    rfl
  · simp only [exec_eq_after, after, holdoffExpiry, runs, State.mapLnk, held, if_true]
    cases s.rli.rx <;> rfl
  · simp only [exec_eq_after, after, holdoffExpiry, runs, State.mapLnk, fault, reduceCtorEq, if_false]

/-! ## Edges (R21 to R26) -/

theorem fallingEdge_short {held : Nat} (on : s.sup.cfg.rxFilter = true) (short : held < 2) : fallingEdge held s = s := by
  have lost : edgeTaken s.sup.cfg held = false := Bool.eq_false_iff.2 fun taken => by
    have := (edgeTaken_iff s.sup.cfg held).1 taken on
    omega
  simp [fallingEdge, lost]

/-- A fall that the receiver takes acts by the receiver's state. -/
theorem fallingEdge_of_taken {held : Nat} (taken : s.sup.cfg.rxFilter = true → 2 ≤ held)
    (falls : s.rli.lineLow = false ∨ OwnEdgeYoung s) :
    fallingEdge held s =
      match s.rli.rx with
      | .off => s.mapRli fun r => { r with lineLow := true }
      | .idle => startEdgeTaken (filterDelay s.sup.cfg) s
      | .inFrame => s.mapRli (fallInFrame (filterDelay s.sup.cfg))
      | .seekQuiet => s.mapRli (takeFall (filterDelay s.sup.cfg))
      | .stuck => s.mapRli (takeFall (filterDelay s.sup.cfg)) := by
  have passes : (s.rli.lineLow && !ownEdgeYounger (filterDelay s.sup.cfg) s.rli) = false := by
    obtain high | young := falls
    · simp [high]
    · simp [(ownEdgeYounger_iff s).2 young]
  exact if_neg (by simp [(edgeTaken_iff s.sup.cfg held).2 taken, passes])

theorem filterDelay_eq (c : ConfigSet) : filterDelay c = if c.rxFilter then 2 else 0 := rfl

theorem fallInFrame_same {k : Cell} {ago : Nat} {r : RowLine} (cell : r.cell = some k) (early : k.sampled = false)
    (current : r.lineLow = false ∨ r.frame.taken = [] ∧ r.frame.cells = 0) : fallInFrame ago r = takeFall ago r := by
  have stays : (r.lineLow && !atStartCell r.frame) = false := by
    obtain high | ⟨taken, cells⟩ := current
    · simp [high]
    · simp [atStartCell, taken, cells]
  simp [fallInFrame, cell, early, stays]

theorem fallInFrame_next {k : Cell} {ago : Nat} {r : RowLine} (cell : r.cell = some k)
    (next : k.sampled = true ∨ r.lineLow = true ∧ ¬(r.frame.taken = [] ∧ r.frame.cells = 0)) :
    fallInFrame ago r = beginCell ago (takeFall ago r) := by
  have begins : (k.sampled || r.lineLow && !atStartCell r.frame) = true := by
    obtain late | ⟨low, inside⟩ := next
    · simp [late]
    · cases starts : atStartCell r.frame with
      | false => simp [low]
      | true => exact absurd (by simpa [atStartCell] using starts) inside
  simp [fallInFrame, cell, begins]

/-- Settles O13: a fall that is not taken, one on a high line by the receiver's state, and one that came before a young own edge. -/
theorem fallingEdgeActsByReceiverState : Obligations.FallingEdgeActsByReceiverState := by
  unfold Obligations.FallingEdgeActsByReceiverState
  intro s held c edge ago
  have same : exec c s = .next (fallingEdge held s) := by
    obtain rfl | rfl := edge <;> rfl
  have delay : filterDelay s.sup.cfg = ago := rfl
  rw [same]
  refine ⟨fun on short => by rw [fallingEdge_short on short], fun high taken => ?_, fun low young long => ?_⟩
  · have acts := fallingEdge_of_taken (held := held) taken (.inl high)
    rw [delay] at acts
    refine ⟨fun off => ?_, fun seeks => ?_, fun idle none silent => ?_, fun k rx cell early => ?_, fun k rx cell late silent => ?_,
      fun k f rx cell late flies => ?_⟩
    · rw [acts, off]
      rfl
    · obtain rx | rx := seeks <;> rw [acts, rx] <;> rfl
    · rw [acts, idle]
      simp only [startEdgeTaken, none, startReceiving, State.mapLnk, State.mapRli, enterFrame, takeFall, beginCell, silent]
      rfl
    · rw [acts, rx]
      simp only [State.mapRli, fallInFrame_same cell early (.inl high)]
      rfl
    · rw [acts, rx]
      simp only [State.mapRli, fallInFrame_next cell (.inl late), beginCell, takeFall, silent]
    · rw [acts, rx]
      simp only [State.mapRli, fallInFrame_next cell (.inl late), beginCell, takeFall, flies, sentCell]
      cases frameCell f.bytes s.rli.frame.taken.length s.rli.frame.cells <;> rfl
  · obtain ⟨on, rx, -, ⟨k, cell, early⟩, -⟩ := id young
    have acts := fallingEdge_of_taken (held := held) (fun _ => long) (.inr young)
    rw [rx, filterDelay_on _ on] at acts
    rw [acts]
    refine ⟨fun taken cells => ?_, fun f flies inside => ?_⟩
    · simp only [State.mapRli, fallInFrame_same cell early (.inr ⟨taken, cells⟩), takeFall, low]
    · simp only [State.mapRli, fallInFrame_next cell (.inr ⟨low, inside⟩), beginCell, takeFall, flies, sentCell, low]
      cases frameCell f.bytes s.rli.frame.taken.length s.rli.frame.cells <;> rfl

/-- Settles O20: a rise by the filter, the transmitter's own cell on a high and on a low line, the release. -/
theorem risingEdgeAndOwnCellEdges : Obligations.RisingEdgeAndOwnCellEdges := by
  unfold Obligations.RisingEdgeAndOwnCellEdges
  refine ⟨fun s held low taken => ?_, fun s held on short => ?_, fun s f k rx flies cell => ?_, fun s => rfl⟩
  · simp only [exec_eq_after, after, risingEdge, (edgeTaken_iff s.sup.cfg held).2 taken, low]
    rfl
  · have lost : edgeTaken s.sup.cfg held = false := Bool.eq_false_iff.2 fun taken => by
      have := (edgeTaken_iff s.sup.cfg held).1 taken on
      omega
    simp [exec_eq_after, after, risingEdge, lost]
  · have driven (sent : Bool) : lowTimeOf sent - 0 = if sent then 5 else 15 := by cases sent <;> rfl
    refine ⟨fun late high => ?_, fun late low => ?_, fun early => ?_⟩
    · simp only [exec_eq_after, after, transmitCellEdge, rx, flies, cell, late, if_true, State.mapRli, ownEdge_high _ high, beginCell,
        takeFall, sentCell, driven]
    · simp only [exec_eq_after, after, transmitCellEdge, rx, flies, cell, late, if_true, State.mapRli, ownEdge_low _ low, beginCell,
        sentCell, driven]
    · simp [exec_eq_after, after, transmitCellEdge, rx, flies, cell, early]

/-! ## Quiet and a stuck line (R24, R25, R39, R40) -/

/-- Settles O14: QUIET by the receiver's state, LINE_STUCK from the three states that it ends. -/
theorem quietAndLineStuckMoveTheReceiver : Obligations.QuietAndLineStuckMoveTheReceiver := by
  unfold Obligations.QuietAndLineStuckMoveTheReceiver
  intro s
  refine ⟨fun rx => ?_, fun rx => ?_, fun rx silent => ?_⟩
  · simp only [exec_eq_after, after, quietReached, rx]
    rfl
  · simp only [exec_eq_after, after, quietReached, rx]
    cases runs : s.lnk.holdoff <;> simp [State.mapLnk, State.mapRli, runs]
  · have ends : after .lineStuck s =
        (s.mapRli fun r => { toSeekQuiet { r with lineLow := true } with rx := .stuck, quiet := .awaitRise }).mapLnk
          fun l => { l with link := .lineFault, lastError := .lineStuck } := by
      obtain rx | rx | rx := rx <;> simp [after, lineStuck, rx, silent]
    rw [exec_eq_after, ends]
    simp only [State.mapRli, State.mapLnk, toSeekQuiet, if_true, silent]
    rfl

/-! ## Where a frame-level command finds the line -/

/-- The quiet timer at a sample point that reads high: the current cell's, whose last edge has been taken, or a later cell's. -/
def quietHigh (current : Bool) (r : RowLine) : QuietTimer :=
  if current then (if r.lineLow = true ∧ r.quiet = .awaitRise then .running 0 else r.quiet) else .running 10

/-- The quiet timer at a sample point that reads low. -/
def quietLow (current : Bool) (r : RowLine) : QuietTimer :=
  if current then (if r.lineLow then r.quiet else .running 0) else .running 10

theorem sampledLine_high (current : Bool) (r : RowLine) :
    sampledLine current false r = { r with lineLow := false, lowTime := none, quiet := quietHigh current r } := by
  cases current
  · rfl
  · cases level : r.lineLow with
    | true => simp [sampledLine_current, setLevel, quietHigh, quietAtRise, level]
    | false => simp [sampledLine_current, setLevel, quietHigh, level]

theorem sampledLine_low (current : Bool) (r : RowLine) :
    sampledLine current true r =
      { r with lineLow := true, lowTime := some (if current then r.lowTime.getD 0 else 10), quiet := quietLow current r } := by
  cases current
  · rfl
  · cases level : r.lineLow <;> simp [sampledLine_current, setLevel, quietLow, level]

theorem updateAttn_of_current (current : s.svc.attn = attnNow s) : updateAttn s = s := by
  simp only [updateAttn, State.mapSvc, ← current]

theorem quietHigh_eq {current : Bool} {r : RowLine} {p : Prop} [Decidable p] (here : current = true ↔ p) :
    quietHigh current r =
      if p then (if r.lineLow = true ∧ r.quiet = .awaitRise then .running 0 else r.quiet) else .running 10 := by
  unfold quietHigh
  simp only [here]

theorem standsAt_iff {taken cells : Nat} {r : RowLine} :
    standsAt taken cells r = true ↔ (r.cell.any fun k => !k.sampled) = true ∧ r.frame.taken.length = taken ∧ r.frame.cells = cells := by
  simp [standsAt, unsampled, and_assoc]

/-! ## Reception errors (R27 to R31) -/

theorem receptionError_eq (e : LinkError) (s : State) :
    receptionError e s =
      { s with
        rli := { s.rli with
          rx := .seekQuiet, cell := none, frame := { taken := [], cells := 0, shift := 0, check := 0xFF }, tx := none,
          lowTime := if s.rli.lineLow then some (s.rli.lowTime.getD 0) else s.rli.lowTime }
        lnk := { s.lnk with
          lastError := e, renewed := false, link := if s.lnk.link = .holdoff then .holdoff else .waitQuiet } } := rfl

/-- The line after the stop cell of a whole frame (R30; log entries 12 and 40). -/
def endedLine (bytes : List Byte) (r : RowLine) : RowLine :=
  { r with
    rx := .seekQuiet, cell := none, frame := { taken := [], cells := 0, shift := 0, check := 0xFF }, lineLow := false,
    lowTime := none, driver := none, tx := none
    quiet :=
      if (r.cell.any fun k => !k.sampled) = true ∧ r.frame.taken.length = bytes.length - 1 ∧ r.frame.cells = 9 then
        (if r.lineLow = true ∧ r.quiet = .awaitRise then .running 0 else r.quiet)
      else .running 10 }

/-- The state at the stop cell of a whole frame. -/
def stopCell (bytes : List Byte) (s : State) : State :=
  s.mapRli fun r => { sampledLine (standsAt (bytes.length - 1) 9 s.rli) false r with driver := none }

theorem toSeekQuiet_stopCell (bytes : List Byte) (s : State) : toSeekQuiet (stopCell bytes s).rli = endedLine bytes s.rli := by
  simp only [stopCell, State.mapRli_rli, sampledLine_high, quietHigh_eq standsAt_iff]
  rfl

theorem exec_goodFrame {bytes : List Byte} (admitted : frameAdmitted bytes s = true) :
    exec (.goodFrame bytes) s = .next (updateAttn (endFrame (crc bytes.dropLast) bytes (stopCell bytes s))) := by
  rw [exec_eq_after]
  exact congrArg _ (if_pos admitted)

/-- Settles O15: the three errors of a frame under reception, and the two of a whole frame. -/
theorem receptionErrorsDiscardTheFrame : Obligations.ReceptionErrorsDiscardTheFrame := by
  unfold Obligations.ReceptionErrorsDiscardTheFrame
  refine ⟨fun s rx silent => ?_, fun s bytes silent current admitted => ?_⟩
  · intro after running waiting high low
    have receives : receivingFrame s = true := by simp [receivingFrame, rx, silent]
    have here (c : FramingCell) :
        (unsampled s.rli && decide (s.rli.frame.cells = framingCellNumber c)) = true ↔
          waiting ∧ s.rli.frame.cells = framingCellNumber c := by simp [unsampled, waiting]
    refine ⟨?_, ?_, ?_, fun len long => ⟨fun agrees => ?_, fun differs => ?_⟩⟩
    · simp only [exec_eq_after, Machine.after, gapTimeout, receives, if_true, receptionError_eq, after, running, ← silent]
    · simp only [exec_eq_after, Machine.after, frameError, receives, if_true, receptionError_eq, State.mapRli, framingLow,
        sampledLine_high, quietHigh_eq (here .startHigh), after, silent]
      rfl
    · simp only [exec_eq_after, Machine.after, frameError, receives, if_true, receptionError_eq, State.mapRli, framingLow,
        sampledLine_low, quietLow, here .stopLow, after, silent]
      by_cases stop : waiting ∧ s.rli.frame.cells = framingCellNumber .stopLow
      · simp only [if_pos stop, running, low]
        simp [if_pos (show waiting ∧ s.rli.frame.cells = 9 from stop)]
      · simp only [if_neg stop]
        simp [if_neg (show ¬(waiting ∧ s.rli.frame.cells = 9) from stop)]
    · simp only [exec_eq_after, Machine.after, lengthError, receives, long, decide_true, agrees, Bool.and_self, if_true,
        receptionError_eq, State.mapRli, sampledLine_high, quietHigh_eq standsAt_iff, after, silent]
      rfl
    · simp [exec_eq_after, Machine.after, lengthError, differs]
  · intro quiet after
    rw [exec_goodFrame admitted]
    refine ⟨fun differs => ?_, fun checks wrong => ?_⟩
    · have ends : endFrame (crc bytes.dropLast) bytes (stopCell bytes s) = after .checkError false := by
        simp only [endFrame, if_neg differs, receptionError, State.mapRli, State.mapLnk, toSeekQuiet_stopCell]
        simp only [endedLine, ← silent]
        rfl
      rw [ends]
      exact congrArg _ (updateAttn_of_current (s := after .checkError false) current)
    · have ends : endFrame (crc bytes.dropLast) bytes (stopCell bytes s) = after .lengthError s.lnk.renewed := by
        have none : (stopCell bytes s).rli.tx = none := by simp [stopCell, silent]
        simp only [endFrame, if_pos checks, handGoodFrame, none, sortFrame, wrong, if_true, State.mapRli, State.mapLnk, toSeekQuiet_stopCell]
        simp only [endedLine, ← silent]
        rfl
      rw [ends]
      exact congrArg _ (updateAttn_of_current (s := after .lengthError s.lnk.renewed) current)

/-! ## The ends of an attempt (R36 to R38, R49 to R51) -/

/-- Settles O16: the frame in flight is the one that ends. -/
theorem selfEchoCompletesTheAttempt : Obligations.SelfEchoCompletesTheAttempt := by
  unfold Obligations.SelfEchoCompletesTheAttempt
  intro s f flies current admitted checks quiet r
  have tx : (stopCell f.bytes s).rli.tx = some f := by simp [stopCell, flies]
  have ends : endFrame (crc f.bytes.dropLast) f.bytes (stopCell f.bytes s) = attemptComplete f.kind (stopCell f.bytes s) := by
    simp only [endFrame, if_pos checks, handGoodFrame, tx]
  rw [exec_goodFrame admitted, ends]
  refine ⟨fun event => ?_, fun status => ?_⟩
  · have completed : attemptComplete f.kind (stopCell f.bytes s) =
        { s with rli := r, lnk := { s.lnk with link := .waitQuiet, attempts := 0, queue := s.lnk.queue.tail } } := by
      simp only [attemptComplete, event, State.mapRli, State.mapLnk, toSeekQuiet_stopCell]
      rfl
    rw [completed, updateAttn_of_current]
    exact current
  · have completed : attemptComplete f.kind (stopCell f.bytes s) =
        { s with
          rli := r
          lnk := { s.lnk with
            link := .waitQuiet, attempts := 0, statusPending := s.lnk.statusPending && s.lnk.renewed, renewed := false } } := by
      simp only [attemptComplete, status, State.mapRli, State.mapLnk, toSeekQuiet_stopCell]
      rfl
    rw [completed, updateAttn_of_current]
    exact current

/-- A good frame that is not the station's own is sorted in SEEK_QUIET (R30, R54). -/
theorem endFrame_sorted {bytes : List Byte} (silent : s.rli.tx = none) (checks : crc bytes.dropLast = bytes.getLastD 0) :
    endFrame (crc bytes.dropLast) bytes (stopCell bytes s) = sortFrame (rxFrameOf bytes) (afterGoodFrame s bytes) := by
  have none : (stopCell bytes s).rli.tx = none := by simp [stopCell, silent]
  have ended : ((stopCell bytes s).mapRli toSeekQuiet).mapLnk (fun l => { l with link := linkAfterFrame l.link }) =
      afterGoodFrame s bytes := by
    simp only [State.mapRli, State.mapLnk, toSeekQuiet_stopCell, endedLine, ← silent]
    rfl
  simp only [endFrame, if_pos checks, handGoodFrame, none, ended]

@[simp] theorem afterGoodFrame_sup (s : State) (bytes : List Byte) : (afterGoodFrame s bytes).sup = s.sup := rfl
@[simp] theorem afterGoodFrame_ros (s : State) (bytes : List Byte) : (afterGoodFrame s bytes).ros = s.ros := rfl
@[simp] theorem afterGoodFrame_dsu (s : State) (bytes : List Byte) : (afterGoodFrame s bytes).dsu = s.dsu := rfl
@[simp] theorem afterGoodFrame_msu (s : State) (bytes : List Byte) : (afterGoodFrame s bytes).msu = s.msu := rfl
@[simp] theorem afterGoodFrame_wch (s : State) (bytes : List Byte) : (afterGoodFrame s bytes).wch = s.wch := rfl
@[simp] theorem afterGoodFrame_shr (s : State) (bytes : List Byte) : (afterGoodFrame s bytes).shr = s.shr := rfl
@[simp] theorem afterGoodFrame_vlv (s : State) (bytes : List Byte) : (afterGoodFrame s bytes).vlv = s.vlv := rfl
@[simp] theorem afterGoodFrame_cap (s : State) (bytes : List Byte) : (afterGoodFrame s bytes).cap = s.cap := rfl
@[simp] theorem afterGoodFrame_svc (s : State) (bytes : List Byte) : (afterGoodFrame s bytes).svc = s.svc := rfl
@[simp] theorem afterGoodFrame_clk (s : State) (bytes : List Byte) : (afterGoodFrame s bytes).clk = s.clk := rfl
@[simp] theorem afterGoodFrame_pending (s : State) (bytes : List Byte) : (afterGoodFrame s bytes).pending = s.pending := rfl

/-- A frame of the own address is reported (R54). -/
theorem sortFrame_own {f : RxFrame} (right : wrongLength f = false) (own : some f.src = s.sup.ownAddr) :
    sortFrame f s = conflictReport s := by
  simp [sortFrame, right, own]

theorem conflictReport_entered (starting : s.sup.mode ≠ .starting) (conflict : s.sup.mode ≠ .conflict) :
    conflictReport s = enterConflict s := by
  unfold conflictReport
  cases mode : s.sup.mode <;> simp_all

/-- Settles O17: the report enters CONFLICT from every mode that is not STARTING or CONFLICT itself. -/
theorem ownAddressFrameEntersConflict : Obligations.OwnAddressFrameEntersConflict := by
  unfold Obligations.OwnAddressFrameEntersConflict
  intro s bytes silent admitted checks right own quiet r
  rw [exec_goodFrame admitted, endFrame_sorted silent checks, sortFrame_own right (s := afterGoodFrame s bytes) own]
  refine ⟨fun starting conflict => ⟨_, rfl, ?_⟩, fun conflict current => ?_⟩
  · have none : (afterGoodFrame s bytes).rli.tx = none := silent
    have link : (if (afterGoodFrame s bytes).lnk.link = .holdoff then matchReceiver (afterGoodFrame s bytes).rli.rx
        else (afterGoodFrame s bytes).lnk.link) = .waitQuiet := by
      by_cases held : s.lnk.link = .holdoff <;> simp [afterGoodFrame, held, matchReceiver]
    rw [conflictReport_entered (s := afterGoodFrame s bytes) starting conflict]
    refine ⟨?_, ?_, ?_, ?_, ?_, ?_, ?_, ?_, ?_, ?_, ?_, ?_, ?_⟩
    · simp [enterConflict]
    · simp only [updateAttn_rli, enterConflict_rli, none]
      rfl
    · simp only [updateAttn_lnk, enterConflict_lnk, none, link]
      rfl
    · simp [enterConflict, changeMode_dsu, msec]
    · simp [enterConflict]
    · simp [attnNow, enterConflict]
    all_goals simp
  · have stays : conflictReport (afterGoodFrame s bytes) = afterGoodFrame s bytes := by
      simp only [conflictReport, show (afterGoodFrame s bytes).sup.mode = .conflict from conflict]
    rw [stays, updateAttn_of_current (s := afterGoodFrame s bytes) current]
    rfl

theorem attemptBitError_of_few (few : s.lnk.attempts < 3) :
    attemptBitError s =
      { s with
        rli := toSeekQuiet s.rli
        lnk := { s.lnk with
          attempts := s.lnk.attempts + 1, lastError := .bitError, renewed := false, link := .waitQuiet } } := by
  have below : s.lnk.attempts + 1 < 4 := by omega
  simp only [attemptBitError, below, if_true]
  rfl

theorem attemptBitError_fourth {f : TxFrame} (flies : s.rli.tx = some f) (three : s.lnk.attempts = 3) :
    attemptBitError s =
      { s with
        rli := toSeekQuiet s.rli
        lnk := { s.lnk with
          attempts := 4, lastError := .bitError, renewed := false, link := .holdoff, holdoff := some 50000
          statusPending := if f.kind = .status then false else s.lnk.statusPending }
        cap := appendRecord { time := s.clk.ms, body := .event .holdoff } s.cap } := by
  have status : statusInFlight s = decide (f.kind = .status) := by simp [statusInFlight, flies]
  simp only [attemptBitError, status, three, decide_eq_true_eq]
  rfl

/-- Settles O18: each end of an attempt at the cell it names, the fourth BIT_ERROR with its holdoff. -/
theorem lostArbitrationAndBitErrorEndTheAttempt : Obligations.LostArbitrationAndBitErrorEndTheAttempt := by
  unfold Obligations.LostArbitrationAndBitErrorEndTheAttempt
  intro s f rx flies waiting current
  refine ⟨fun n sent ahead => ?_, fun sampled => ?_⟩
  · have stands : standsAt (n.val / 8) (n.val % 8 + 1) s.rli = true ↔ current n := standsAt_iff
    have taken : (frameCell f.bytes (n.val / 8) (n.val % 8 + 1) && cellAhead s.rli.frame n.val) = true := by
      simp [sent, cellAhead, ahead]
    simp only [exec_eq_after, after, lostArbitration, rx, flies, taken, if_true, attemptLost, State.mapRli, State.mapLnk, sampledLine_low,
      quietLow, stands]
    by_cases here : current n <;> simp [here, assemblyAtLoss]
  · intro here r
    have cell : bitErrorHere f sampled s.rli = true ↔ here := by
      cases sampled with
      | true => simp [bitErrorHere, unsampled, sentCell, here, waiting]
      | false =>
        simp only [bitErrorHere, unsampled, sentCell, isArbitrationCell, here, waiting, and_assoc, Bool.and_eq_true, bne_iff_ne, ne_eq,
          Bool.not_eq_true', Bool.false_or, Bool.not_false, Bool.not_eq_false, Bool.and_eq_false_iff, decide_eq_false_iff_not, true_and]
        refine and_congr_right fun _ => and_congr_right fun _ => ?_
        omega
    have line : toSeekQuiet { sampledLine (bitErrorHere f sampled s.rli) (!sampled) s.rli with
        driver := if sampled then some 5 else none } = r := by
      cases sampled with
      | true => simp [toSeekQuiet, sampledLine_high, quietHigh_eq cell, r, emptyAssembly]
      | false => simp [toSeekQuiet, sampledLine_low, quietLow, cell, r, emptyAssembly]
    refine ⟨fun few => ?_, fun fourth => ?_⟩
    · simp only [exec_eq_after, after, bitError, rx, flies]
      rw [attemptBitError_of_few (s := s.mapRli _) few, State.mapRli_rli, line]
      rfl
    · simp only [exec_eq_after, after, bitError, rx, flies]
      rw [attemptBitError_fourth (s := s.mapRli _) (f := f) (by simpa using flies) fourth, State.mapRli_rli, line]
      rfl

end Sys2Proof.Machine
end

section
/-! PROOF. Reset, the load's end and the join timer: O49 from the blocks' own predicates, O3, O4 and O10 block by block. -/

namespace Sys2Proof.Machine

open Safety

variable {s t : State}

/-! ## Reset -/

/-- Settles O49: each predicate of the part at the values of reset. -/
theorem safeAtReset : Obligations.SafeAtReset := by
  unfold Obligations.SafeAtReset
  have noFired : anyFired State.reset = false := anyFired_fresh (c := defaultConfig) rfl
  have modes : ModeSafe State.reset :=
    modeSafe_iff.2 ⟨⟨rfl, nofun, nofun, Nat.zero_le 3, nofun⟩, ⟨nofun, nofun⟩, nofun⟩
  have link : LinkSafe State.reset := linkSafe_iff.2 ⟨linkFits_off _ false, nofun⟩
  have share : ShareSafe State.reset := shareSafe_iff.2 ⟨shareInRange_noGrant (by decide), fun _ => rfl⟩
  have valve : ValveSafe State.reset := by simp [ValveSafe, State.reset]
  exact ⟨configInRange_default, startingSafe_reset false [], modes, link, rosterSafe_of_empty rfl, dripSafe_iff.2 dripState_reset,
    measureSafe_iff.2 measureInRange_reset, unitSafe_freshWatch configInRange_default, share, valve, captureSafe_reset,
    noFired.symm, sensorFlag_reset, attnFlag_reset⟩

/-- Settles O3: RESET by the table of each block, RESET_RELEASE by the pin. -/
theorem resetLeavesTheTableValuesAndReleaseSamplesTheStraps : Obligations.ResetLeavesTheTableValuesAndReleaseSamplesTheStraps := by
  unfold Obligations.ResetLeavesTheTableValuesAndReleaseSamplesTheStraps
  refine ⟨fun s => ⟨resetPart s, rfl, ?_⟩, fun s addr seg => ⟨fun held => ?_, fun high => ?_⟩⟩
  · refine ⟨⟨rfl, rfl, rfl, rfl, rfl, rfl, rfl, rfl, rfl, rfl, rfl, rfl, rfl⟩, ⟨rfl, rfl, rfl, rfl, rfl, rfl, rfl, rfl⟩,
      ⟨rfl, rfl, rfl, rfl, rfl⟩, ⟨rfl, rfl⟩, ⟨rfl, rfl, rfl, rfl, rfl, fun z => ?_, rfl, rfl, rfl⟩,
      ⟨rfl, rfl, fun k => ?_, rfl, rfl, rfl, rfl, rfl, rfl⟩, fun u => ?_, rfl,
      ⟨rfl, rfl, rfl, rfl, rfl, rfl, rfl, rfl, fun _ => rfl⟩, rfl, rfl, rfl, rfl⟩
    · fin_cases z <;> rfl
    · fin_cases k <;> rfl
    · fin_cases u <;> rfl
  · have released : exec (.resetRelease addr seg) s =
        .next { s with
          sup := { s.sup with ownAddr := some addr, ownSeg := some seg, loading := true }
          clk := { held := false, ms := 0, us := 0 } } := congrArg Host.Outcome.next (if_pos held)
    refine ⟨released, fun t ran => ?_⟩
    obtain rfl : _ = t := Host.Outcome.next.inj (released.symm.trans ran)
    rfl
  · exact congrArg Host.Outcome.next (if_neg (by simp [high]))

/-! ## The end of the load -/

theorem enterJoining_sup (s : State) :
    (enterJoining s).sup =
      { s.sup with
        mode := .joining, dryCheck := .pending, joinTimer := some (1000 * (2 * s.sup.cfg.pAnn)), joinExpired := false, joinFaults := 0 } := by
  simp [enterJoining, msec]

theorem enterJoining_lnk (s : State) : (enterJoining s).lnk = { s.lnk with announce := none } := by
  simp [enterJoining, changeMode_lnk, isSending]

theorem enterJoining_dsu (s : State) :
    (enterJoining s).dsu = if s.dsu.scan = .idle then beginScan s.dsu else { s.dsu with rescan := true } := by
  simp [enterJoining, changeMode_dsu, isSending]

/-- A valve that is CLOSED or STUCK takes no CLOSE request, and the entry to JOINING is recorded alone. -/
theorem enterJoining_of_shut (shut : s.vlv.valve = .closed ∨ s.vlv.valve = .stuck) :
    (enterJoining s).vlv = s.vlv ∧
      (enterJoining s).cap = appendRecord { time := s.clk.ms, body := .event (.mode .joining) } s.cap := by
  obtain shut | shut := shut
  all_goals simp [enterJoining, closeRequest, shut]

/-- Settles O4: in STARTING every block stands as reset left it, and the load's end is the installed set, the end of STARTING and the
entry to JOINING. -/
theorem loadEndEntersJoining : Obligations.LoadEndEntersJoining := by
  unfold Obligations.LoadEndEntersJoining
  intro s image safe loading length l
  have starting : s.sup.mode = .starting := safe.1.2 (.inr loading)
  have asReset := inStarting_of_safe safe starting
  have loaded : exec (.loadEnd image) s = .next (updateAttn (enterJoining (endStarting (installConfig l s)))) :=
    congrArg Host.Outcome.next (if_pos loading)
  have shut : (endStarting (installConfig l s)).vlv.valve = .closed := congrArg Valve.valve asReset.vlv
  obtain ⟨vlv, cap⟩ := enterJoining_of_shut (.inl shut)
  have quiet : attnNow (enterJoining (endStarting (installConfig l s))) = false := by
    have noFired : anyFired (enterJoining (endStarting (installConfig l s))) = false := anyFired_fresh (c := l.cfg) (by
      simp [endStarting, installConfig])
    have fault : s.sup.sensorFault = false := congrArg Supervisor.sensorFault asReset.sup
    have stroke : s.vlv.strokeFault = false := congrArg Valve.strokeFault asReset.vlv
    simp only [attnNow, noFired, enterJoining_sup, vlv]
    show (false || _ || s.vlv.strokeFault || s.sup.sensorFault) = false
    simp [fault, stroke]
  refine ⟨_, loaded, ?_, ?_, ?_, ?_, ?_, ?_, fun u => ?_, ?_, ?_, ?_, ?_, ?_, ?_, ?_, ?_, loadTransfer_length image length, ?_,
    imageTaken_loadTransfer image, rfl⟩
  · have unfired : s.sup.watchFired = false := congrArg Supervisor.watchFired asReset.sup
    simp [enterJoining_sup, endStarting, installConfig, unfired]
  · have driver : s.rli = { State.reset.rli with lineLow := s.rli.lineLow } := asReset.rli
    simp only [updateAttn_rli, enterJoining_rli]
    rw [show (endStarting (installConfig l s)).rli = startReceiver s.rli from rfl, driver]
    cases s.rli.lineLow <;> rfl
  · have announce : s.lnk.announce = none := congrArg Link.announce asReset.lnk
    simp [enterJoining_lnk, endStarting, installConfig, ← announce]
  · simp [endStarting, installConfig]
  · have scan : s.dsu.scan = .idle := congrArg DripUnit.scan asReset.dsu
    have number : s.dsu.scanNumber = 0 := congrArg DripUnit.scanNumber asReset.dsu
    simp [enterJoining_dsu, endStarting, installConfig, beginScan, scan, number]
  · simp [endStarting, installConfig, msec]
  · simp only [updateAttn_wch, enterJoining_wch]
    exact freshWatch_units l.cfg u
  · simp [endStarting, installConfig, startDemand]
  · exact vlv
  · refine cap.trans ?_
    have ring : s.cap.ring = [] := asReset.ring
    cases frozen : s.cap.frozen
    · exact (appendRecord_running _ _ frozen).trans (by simp [ring, endStarting, installConfig])
    · exact (appendRecord_frozen _ _ frozen).trans (by simp [← ring])
  · have attn : s.svc.attn = false := asReset.attn
    simp only [updateAttn_svc, quiet, enterJoining_svc]
    show { s.svc with attn := false } = s.svc
    rw [← attn]
  · simp [endStarting, installConfig]
  · simp [endStarting, installConfig]
  · simp [csnHigh, loading]
  · simp [csnHigh, endStarting, installConfig]
  · simp [sckCycles, loadTransfer_length image length]

/-! ## The way to ACTIVE -/

theorem goActive_sup (s : State) :
    (goActive s).sup =
      { s.sup with
        mode := if 1 ≤ s.sup.cfg.quorum ∧ s.sup.cfg.quorum ≤ isolationCount s then .contained else .active } := by
  rw [← goActive_mode]
  obtain ⟨stays, -⟩ | ⟨moves, -⟩ := goActive_cases s
  · simp [stays]
  · simp [moves]

theorem goActive_lnk (s : State) :
    (goActive s).lnk =
      { s.lnk with
        statusPending := true
        renewed := s.lnk.renewed || statusInFlight s
        announce := if isSending s.sup.mode then s.lnk.announce else some (1000 * s.sup.cfg.pAnn) } := by
  obtain ⟨stays, -⟩ | ⟨moves, -⟩ := goActive_cases s
  · simp [stays, changeMode_lnk, isSending, msec]
  · simp [moves, changeMode_lnk, isSending, msec, statusInFlight]

theorem goActive_dsu (s : State) :
    (goActive s).dsu = { s.dsu with scanTimer := some (s.dsu.scanTimer.getD (1000 * s.sup.cfg.scanPeriod)) } := by
  obtain ⟨stays, -⟩ | ⟨moves, -⟩ := goActive_cases s
  · simp [stays, changeMode_dsu, isSending, msec]
  · simp [moves, changeMode_dsu, isSending, msec]

theorem goActive_cap (s : State) :
    (goActive s).cap =
      if 1 ≤ s.sup.cfg.quorum ∧ s.sup.cfg.quorum ≤ isolationCount s then
        appendRecord { time := s.clk.ms, body := .event (.mode .contained) }
          (appendRecord { time := s.clk.ms, body := .event (.mode .active) } s.cap)
      else appendRecord { time := s.clk.ms, body := .event (.mode .active) } s.cap := by
  obtain ⟨stays, below⟩ | ⟨moves, reached⟩ := goActive_cases s
  · rw [stays, if_neg (by omega), changeMode_cap]
  · rw [moves, if_pos reached, changeMode_cap, changeMode_cap, changeMode_clk]

/-- Settles O10: the completion of the join at its timer, by the dry check. -/
theorem joinTimerExpiryEndsTheJoin : Obligations.JoinTimerExpiryEndsTheJoin := by
  unfold Obligations.JoinTimerExpiryEndsTheJoin
  intro s n joining runs
  constructor
  · intro passed contains
    have ran : exec .joinTimerExpiry s = .next (updateAttn (goActive (s.mapSup fun p => { p with joinTimer := none }))) := by
      refine congrArg Host.Outcome.next ?_
      simp only [joinTimerExpiry, runs, State.mapSup_sup, joining, passed, if_true]
    refine ⟨_, ran, ?_, ?_, ?_, ?_, ?_, ?_⟩
    · exact goActive_sup _
    · refine (goActive_lnk _).trans ?_
      simp [joining, isSending, statusInFlight]
    · exact goActive_dsu _
    · exact goActive_cap _
    · rw [updateAttn_svc, goActive_svc]
      rfl
    · simp
  · intro pending
    refine congrArg Host.Outcome.next ?_
    simp [joinTimerExpiry, runs, State.mapSup, joining, pending]

end Sys2Proof.Machine
end

section
/-! PROOF. The step on an empty queue: the events that are due, each condition as the manual states it, and the tick, block by block; O2. -/

namespace Sys2Proof.Machine

open Safety

variable {s t : State} {e : Instr}

/-! ## The events that are due -/

theorem ranOut_iff {timer : Option Nat} : ranOut timer = true ↔ timer = some 0 := by simp [ranOut]

theorem cellAt_iff {r : RowLine} {sampled : Bool} {age : Nat} :
    cellAt r sampled age = true ↔ ∃ k, r.rx = .inFrame ∧ r.cell = some k ∧ k.sampled = sampled ∧ age ≤ k.age := by
  cases cell : r.cell <;> simp [cellAt, cell, and_assoc]

/-- The events of the current cell: its sample point, the transmitter's next cell, the gap (R22, R28). -/
theorem mem_dueCell {r : RowLine} :
    (cellAt r false 10 = true ∧ e = .cellSamplePoint) ∨ ((r.tx.isSome && cellAt r true 20) = true ∧ e = .transmitCellEdge) ∨
        ((r.tx.isNone && cellAt r true 100) = true ∧ e = .gapTimeout) ↔
      ∃ k, r.rx = .inFrame ∧ r.cell = some k ∧
        ((k.sampled = false ∧ 10 ≤ k.age ∧ e = .cellSamplePoint) ∨
          (k.sampled = true ∧ r.tx ≠ none ∧ 20 ≤ k.age ∧ e = .transmitCellEdge) ∨
          (k.sampled = true ∧ r.tx = none ∧ 100 ≤ k.age ∧ e = .gapTimeout)) := by
  simp only [Bool.and_eq_true, cellAt_iff, Option.isNone_iff_eq_none, Option.isSome_iff_ne_none]
  constructor
  · rintro (⟨⟨k, frame, cell, sampled, age⟩, eq⟩ | ⟨⟨tx, k, frame, cell, sampled, age⟩, eq⟩ | ⟨⟨tx, k, frame, cell, sampled, age⟩, eq⟩)
    · exact ⟨k, frame, cell, .inl ⟨sampled, age, eq⟩⟩
    · exact ⟨k, frame, cell, .inr (.inl ⟨sampled, tx, age, eq⟩)⟩
    · exact ⟨k, frame, cell, .inr (.inr ⟨sampled, tx, age, eq⟩)⟩
  · rintro ⟨k, frame, cell, ⟨sampled, age, eq⟩ | ⟨sampled, tx, age, eq⟩ | ⟨sampled, tx, age, eq⟩⟩
    · exact .inl ⟨⟨k, frame, cell, sampled, age⟩, eq⟩
    · exact .inr (.inl ⟨⟨tx, k, frame, cell, sampled, age⟩, eq⟩)
    · exact .inr (.inr ⟨⟨tx, k, frame, cell, sampled, age⟩, eq⟩)

theorem mem_dueRowLine {r : RowLine} :
    e ∈ dueRowLine r ↔
      (r.driver = some 0 ∧ e = .driveRelease) ∨
      (∃ k, r.rx = .inFrame ∧ r.cell = some k ∧
        ((k.sampled = false ∧ 10 ≤ k.age ∧ e = .cellSamplePoint) ∨
          (k.sampled = true ∧ r.tx ≠ none ∧ 20 ≤ k.age ∧ e = .transmitCellEdge) ∨
          (k.sampled = true ∧ r.tx = none ∧ 100 ≤ k.age ∧ e = .gapTimeout))) ∨
      (∃ n, r.lowTime = some n ∧ 320 < n ∧ r.tx = none ∧ (r.rx = .seekQuiet ∨ r.rx = .idle ∨ r.rx = .inFrame) ∧ e = .lineStuck) ∨
      ((r.rx = .seekQuiet ∨ r.rx = .stuck) ∧ r.quiet = .running 160 ∧ r.lineLow = false ∧ e = .quiet) := by
  rw [← mem_dueCell]
  simp only [dueRowLine, List.mem_append, mem_dueWhen, ranOut_iff, or_assoc]
  refine or_congr_right (or_congr_right (or_congr_right (or_congr_right (or_congr ?_ ?_))))
  · cases r.lowTime <;> simp [and_assoc, and_left_comm]
  · simp [and_assoc]

theorem mem_dueEntries {es : List Entry} :
    e ∈ es.flatMap dueEntry ↔
      ∃ x ∈ es,
        (x.liveness = .live ∧ 1000 * (3 * x.period) ≤ x.silence ∧ e = .entryStale x.address) ∨
          (1000 * (8 * x.period) ≤ x.silence ∧ e = .entryRemoval x.address) := by
  simp only [List.mem_flatMap, dueEntry, List.mem_append, mem_dueWhen, Bool.and_eq_true, decide_eq_true_eq, and_assoc]
  rfl

theorem mem_dueWindows {m : Mode} {w : Watch} :
    e ∈ dueWindows m w ↔
      ∃ u : Fin 8, m ≠ .parked ∧ w.units[u].status = .armed ∧ w.units[u].window = some 0 ∧ e = .windowExpiry u := by
  unfold dueWindows
  split
  case isTrue parked => simp [parked]
  case isFalse other =>
    simp only [List.mem_flatMap, mem_dueWhen, Bool.and_eq_true, decide_eq_true_eq, ranOut_iff, and_assoc, mem_allUnits, true_and]
    exact exists_congr fun u => (and_iff_right other).symm

theorem mem_dueDrip {d : DripUnit} :
    e ∈ dueDrip d ↔
      (d.scanTimer = some 0 ∧ e = .scanTimerExpiry) ∨
        ∃ n, d.scan = .reference ∧ d.timeBase = some n ∧ 1048575 ≤ n ∧ e = .referenceFault := by
  simp only [dueDrip, List.mem_append, mem_dueWhen, ranOut_iff, Bool.and_eq_true, decide_eq_true_eq]
  cases d.timeBase <;> simp [and_assoc]

theorem mem_dueMeasure {m : Measure} :
    e ∈ dueMeasure m ↔
      (m.acqTimer = some 0 ∧ e = .acquisitionTimerExpiry) ∨
        ∃ n, m.edge = .timing ∧ m.period = some n ∧ 500000 ≤ n ∧ e = .noFlow := by
  simp only [dueMeasure, List.mem_append, mem_dueWhen, ranOut_iff, Bool.and_eq_true, decide_eq_true_eq]
  cases m.period <;> simp [and_assoc]

theorem mem_dueValve {d : Valve} :
    e ∈ dueValve d ↔
      (d.valve = .opening ∧ d.pullIn = some 0 ∧ e = .pullInExpiry) ∨
        (d.valve = .closing ∧ d.stroke = some 0 ∧ e = .strokeTimerExpiry) := by
  simp only [dueValve, List.mem_append, mem_dueWhen, ranOut_iff, Bool.and_eq_true, decide_eq_true_eq, and_assoc]

/-! ## The tick -/

/-- Settles O2: the idle step by its cases, the tick block by block, the due events block by block. -/
theorem idleStepCountsOneMicrosecond : Obligations.IdleStepCountsOneMicrosecond := by
  unfold Obligations.IdleStepCountsOneMicrosecond
  intro s empty down up
  have stepped : step s = .next (idle s) := by simp only [step, empty]
  refine ⟨fun held => ?_, fun high => ⟨fun e es due => ?_, fun none idle offer => ?_, fun none noOffer us => ?_⟩, fun e => ?_⟩
  · rw [stepped, idle, if_pos held]
  · rw [stepped, idle, if_neg (by simp [high])]
    simp only [due]
  · rw [stepped, Machine.idle, if_neg (by simp [high])]
    simp only [none]
    rw [if_pos ⟨idle, offer⟩]
  · have passes : step s = .next (passTime s) := by
      rw [stepped, idle, if_neg (by simp [high])]
      simp only [none]
      rw [if_neg noOffer]
    refine ⟨_, passes, ?_, ?_, rfl, ?_, rfl, rfl, ?_, rfl, fun u => ?_, rfl, rfl, rfl, rfl⟩
    · show tickClock s.clk = _
      unfold tickClock
      split
      case isTrue early => rw [if_neg (by omega)]
      case isFalse last => rw [if_pos (by omega)]
    · show dueWhen (decide ((tickClock s.clk).us = 0)) .periodStart = _
      unfold tickClock
      split
      case isTrue early => simp [dueWhen, show s.clk.us ≠ 999 by omega]
      case isFalse last => simp [dueWhen, show s.clk.us = 999 by omega]
    · show tickRowLine s.rli = _
      unfold tickRowLine tickQuiet
      cases s.rli.quiet with
      | running n =>
        simp only [show n + 1 < 160 ↔ n < 159 by omega]
        rfl
      | stopped | awaitRise => rfl
    · rfl
    · show (tickWatch s.sup.mode s.wch).units[u] = _
      rw [tickWatch_units]
      split <;> rfl
  · simp only [dueEvents, List.mem_append, mem_dueWhen, ranOut_iff, mem_dueRowLine, mem_dueEntries, mem_dueDrip, mem_dueMeasure,
      mem_dueWindows, mem_dueValve]
    exact Iff.of_eq (by ac_rfl)

end Sys2Proof.Machine
end

section
/-! PROOF. What a frame of another station does at the roster, and what the ageing does: O24 to O27 from the notice that follows them. -/

namespace Sys2Proof.Machine

open Safety

variable {s t n : State} {bytes : List Byte} {e : Entry} {addr : Address} {f : PeerFrame} {own : Nat} {r : Roster}

/-! ## The notice -/

theorem noticeTaken_none (ros : Roster) : NoticeTaken s { s with ros := ros } False :=
  ⟨by simp, fun _ => rfl, False.elim⟩

/-- The notice of a changed roster, as the state before the change sees it. -/
theorem noticeTaken_changed (ros : Roster) : NoticeTaken s (changeNotice { s with ros := ros }) True :=
  changeNotice_taken { s with ros := ros }

theorem rosterTook_ros (addr : Address) (f : PeerFrame) (s : State) :
    (rosterTook addr f s).ros = (rosterTakes s.sup.cfg.pAnn addr f s.ros).1 := by
  simp only [rosterTook]
  split <;> simp

theorem rosterTook_notice (addr : Address) (f : PeerFrame) (s : State) :
    NoticeTaken s (rosterTook addr f s) ((rosterTakes s.sup.cfg.pAnn addr f s.ros).2 = true) := by
  simp only [rosterTook]
  split
  case isTrue notice =>
    rw [eq_true notice]
    exact noticeTaken_changed _
  case isFalse quiet =>
    rw [eq_false quiet]
    exact noticeTaken_none _

@[simp] theorem rosterTook_svc (addr : Address) (f : PeerFrame) (s : State) : (rosterTook addr f s).svc = s.svc := by
  simp only [rosterTook]
  split <;> simp

theorem updateAttn_of_svc (svc : n.svc = s.svc) : updateAttn n = { n with svc := { s.svc with attn := attnNow n } } := by
  rw [← svc]
  rfl

/-! ## A frame of another station -/

theorem exec_peerFrame (heard : PeerFrameHeard s bytes) :
    exec (.goodFrame bytes) s =
      .next (updateAttn (takeFrame (rxFrameOf bytes).src (readPeerFrame (rxFrameOf bytes).kind (rxFrameOf bytes).payload)
        (afterGoodFrame s bytes))) := by
  obtain ⟨silent, admitted, checks, right, other⟩ := heard
  rw [exec_goodFrame admitted, endFrame_sorted silent checks]
  simp [sortFrame, right, other]

/-- A frame that is no DRIP ends at the roster. -/
theorem exec_peerFrame_roster (heard : PeerFrameHeard s bytes) (reads : readPeerFrame (rxFrameOf bytes).kind (rxFrameOf bytes).payload = f)
    (noDrip : ∀ seg sev zones, f ≠ .drip seg sev zones) :
    let n := rosterTook (rxFrameOf bytes).src f (afterGoodFrame s bytes)
    exec (.goodFrame bytes) s = .next { n with svc := { s.svc with attn := attnNow n } } := by
  intro n
  have took : takeFrame (rxFrameOf bytes).src f (afterGoodFrame s bytes) = n := by
    obtain ⟨seg, sev, zones, drip, -⟩ | ⟨-, ends⟩ := takeFrame_cases (rxFrameOf bytes).src f (afterGoodFrame s bytes)
    · exact absurd drip (noDrip seg sev zones)
    · exact ends
  have svc : n.svc = s.svc := rosterTook_svc _ _ _
  rw [exec_peerFrame heard, reads, took, updateAttn_of_svc svc]

/-! ## What the roster takes -/

theorem rosterTakes_known (found : findEntry addr r.entries = some e) (stays : f ≠ .leave) :
    rosterTakes own addr f r = ({ r with entries := changeEntry addr (updatedEntry f) r.entries }, callsForNotice e (updatedEntry f e)) := by
  simp only [rosterTakes, found]
  exact if_neg stays

theorem rosterTakes_leave (found : findEntry addr r.entries = some e) : rosterTakes own addr .leave r = (removeEntry addr r, true) := by
  simp only [rosterTakes, found, if_true]

theorem rosterTakes_admitted (unknown : findEntry addr r.entries = none) (admits : admittedEntry own addr f = some e)
    (room : r.entries.length < 24) : rosterTakes own addr f r = ({ r with entries := insertEntry e r.entries }, true) := by
  simp only [rosterTakes, unknown, admits]
  exact if_pos room

theorem rosterTakes_full (unknown : findEntry addr r.entries = none) (admits : admittedEntry own addr f = some e)
    (full : 24 ≤ r.entries.length) : rosterTakes own addr f r = ({ r with overflow := true }, false) := by
  simp only [rosterTakes, unknown, admits]
  exact if_neg (Nat.not_lt.2 full)

theorem rosterTakes_declined (unknown : findEntry addr r.entries = none) (declines : admittedEntry own addr f = none) :
    rosterTakes own addr f r = (r, false) := by
  simp only [rosterTakes, unknown, declines]

theorem callsForNotice_iff (before after : Entry) :
    callsForNotice before after = true ↔
      before.mode ≠ after.mode ∨ before.segment ≠ after.segment ∨ before.liveness ≠ after.liveness := by
  simp [callsForNotice]

theorem updatedEntry_liveness (stays : f ≠ .leave) (e : Entry) : (updatedEntry f e).liveness = .live := by
  cases f with
  | leave => exact absurd rfl stays
  | status | drip | clear | unknown => rfl

theorem not_live_iff (l : Liveness) : l ≠ .live ↔ l = .stale := by cases l <;> decide

/-- In address order the one entry of an address changes. -/
theorem changeEntry_put (ascending : Ascending r.entries) (found : findEntry addr r.entries = some e) {g : Entry → Entry}
    (same : ∀ x, (g x).address = x.address) :
    changeEntry addr g r.entries = r.entries.map fun x => if x.address = addr then { g e with address := x.address } else x := by
  refine List.map_congr_left fun x mem => ?_
  split
  case isTrue here =>
    rw [eq_of_findEntry ascending found mem here, ← same e]
  case isFalse other => rfl

theorem findEntry_changeEntry {g : Entry → Entry} (same : ∀ x, (g x).address = x.address) (found : findEntry addr r.entries = some e) :
    findEntry addr (changeEntry addr g r.entries) = some (g e) := by
  have here : e.address = addr := address_of_findEntry found
  have keeps : ((fun x : Entry => decide (x.address = addr)) ∘ fun x => if x.address = addr then g x else x) =
      fun x => decide (x.address = addr) := by
    funext x
    simp only [Function.comp]
    split
    · rw [same]
    · rfl
  simp only [findEntry, changeEntry, List.find?_map, keeps]
  rw [show r.entries.find? (fun x => decide (x.address = addr)) = some e from found]
  simp [here]

/-- A known peer's frame: its entry, and the notice where mode, segment or liveness changes (R62 to R66, R72). -/
theorem rosterTook_known (found : findEntry addr s.ros.entries = some e) (stays : f ≠ .leave) :
    (rosterTook addr f s).ros = { s.ros with entries := changeEntry addr (updatedEntry f) s.ros.entries } ∧
      NoticeTaken s (rosterTook addr f s)
        (e.mode ≠ (updatedEntry f e).mode ∨ e.segment ≠ (updatedEntry f e).segment ∨ e.liveness = .stale) := by
  have takes := rosterTakes_known (own := s.sup.cfg.pAnn) found stays
  refine ⟨(rosterTook_ros addr f s).trans (congrArg Prod.fst takes), ?_⟩
  have notice := rosterTook_notice addr f s
  rwa [takes, callsForNotice_iff, updatedEntry_liveness stays, not_live_iff] at notice

/-! ## How a frame reads (R58) -/

theorem heldSegment_of_le {b : Byte} (fits : b.toNat ≤ 15) : heldSegment b = some (b.extractLsb' 0 4) := if_pos fits

theorem heldSegment_of_gt {b : Byte} (beyond : 15 < b.toNat) : heldSegment b = none := if_neg (Nat.not_le.2 beyond)

theorem readPeerFrame_status (p : List Byte) :
    readPeerFrame 1 p =
      .status ((p.getD 6 0).extractLsb' 4 4) (if p.getD 0 0 = 3 then .contained else if p.getD 0 0 = 4 then .isolated else .active)
        (flagsOfByte (p.getD 1 0)) (min (256 * (p.getD 2 0).toNat + (p.getD 3 0).toNat) 2000)
        (min (256 * (p.getD 4 0).toNat + (p.getD 5 0).toNat) 2000) ((p.getD 6 0).extractLsb' 0 4)
        (50 * min (max (p.getD 7 0).toNat 2) 20) := rfl

theorem readPeerFrame_clear {p : List Byte} (fits : (p.getD 0 0).toNat ≤ 15) : readPeerFrame 3 p = .clear := by
  rw [readPeerFrame, if_neg (by decide), if_neg (by decide), if_pos rfl, heldSegment_of_le fits]

theorem readPeerFrame_drip {p : List Byte} (fits : (p.getD 0 0).toNat ≤ 15) :
    readPeerFrame 2 p =
      .drip ((p.getD 0 0).extractLsb' 0 4) (if p.getD 1 0 = 2 then .isolate else .alert) ((p.getD 2 0).extractLsb' 0 4) := by
  rw [readPeerFrame, if_neg (by decide), if_pos rfl, heldSegment_of_le fits]
  rfl

theorem readPeerFrame_unknown {kind : BitVec 4} {p : List Byte}
    (unread : kind = 0 ∨ 5 ≤ kind.toNat ∨ (kind = 3 ∧ 15 < (p.getD 0 0).toNat) ∨ (kind = 2 ∧ 15 < (p.getD 0 0).toNat)) :
    readPeerFrame kind p = .unknown := by
  obtain rfl | high | ⟨rfl, beyond⟩ | ⟨rfl, beyond⟩ := unread
  · rfl
  · have other (k : BitVec 4) (low : k.toNat < 5) : kind ≠ k := fun same => by
      rw [same] at high
      exact absurd high (Nat.not_le.2 low)
    rw [readPeerFrame, if_neg (other 1 (by decide)), if_neg (other 2 (by decide)), if_neg (other 3 (by decide)),
      if_neg (other 4 (by decide))]
  · rw [readPeerFrame, if_neg (by decide), if_neg (by decide), if_pos rfl, heldSegment_of_gt beyond]
  · rw [readPeerFrame, if_neg (by decide), if_pos rfl, heldSegment_of_gt beyond]

/-! ## A frame of a known peer -/

/-- Settles O24: the entry that the frame updates, and the notice of its change. -/
theorem peerFrameUpdatesItsEntry : Obligations.PeerFrameUpdatesItsEntry := by
  unfold Obligations.PeerFrameUpdatesItsEntry
  intro s bytes e heard found f p leads put ascending
  have updates {g : PeerFrame} (reads : readPeerFrame f.kind p = g) (stays : g ≠ .leave) (noDrip : ∀ seg sev zones, g ≠ .drip seg sev zones) :
      ∃ n, put n (updatedEntry g e) ∧ findEntry f.src n.ros.entries = some (updatedEntry g e) ∧
        leads n (e.mode ≠ (updatedEntry g e).mode ∨ e.segment ≠ (updatedEntry g e).segment ∨ e.liveness = .stale) := by
    obtain ⟨ros, notice⟩ := rosterTook_known (s := afterGoodFrame s bytes) found stays
    refine ⟨rosterTook f.src g (afterGoodFrame s bytes), ?_, ?_, notice, exec_peerFrame_roster heard reads noDrip⟩
    · exact ros.trans (congrArg (fun l => { s.ros with entries := l }) (changeEntry_put ascending found (updatedEntry_address g)))
    · rw [ros]
      exact findEntry_changeEntry (updatedEntry_address g) found
  refine ⟨fun status => ?_, fun clear fits => ?_, fun leave => ?_, fun unread => ?_⟩
  · obtain ⟨n, puts, holds, led⟩ := updates ((congrArg (readPeerFrame · p) status).trans (readPeerFrame_status p)) nofun nofun
    exact ⟨n, puts, _, holds, led⟩
  · obtain ⟨n, puts, -, led⟩ := updates ((congrArg (readPeerFrame · p) clear).trans (readPeerFrame_clear fits)) nofun nofun
    refine ⟨n, puts, ?_⟩
    simpa [updatedEntry, refresh] using led
  · have reads : readPeerFrame f.kind p = .leave := by rw [leave]; rfl
    have takes := rosterTakes_leave (own := s.sup.cfg.pAnn) (r := s.ros) found
    refine ⟨rosterTook f.src .leave (afterGoodFrame s bytes), ?_, ?_, exec_peerFrame_roster heard reads nofun⟩
    · exact (rosterTook_ros f.src .leave (afterGoodFrame s bytes)).trans (congrArg Prod.fst takes)
    · have notice := rosterTook_notice f.src .leave (afterGoodFrame s bytes)
      rwa [afterGoodFrame_sup, afterGoodFrame_ros, takes, eq_self] at notice
  · obtain ⟨n, puts, -, led⟩ := updates (readPeerFrame_unknown unread) nofun nofun
    refine ⟨n, puts, ?_⟩
    simpa [updatedEntry, refresh] using led

/-! ## A frame of an unknown peer -/

theorem rosterTook_quiet (quiet : (rosterTakes s.sup.cfg.pAnn addr f s.ros) = (r, false)) :
    rosterTook addr f s = { s with ros := r } := by
  simp only [rosterTook, quiet]
  rfl

theorem rosterTook_admitted (unknown : findEntry addr s.ros.entries = none) (admits : admittedEntry s.sup.cfg.pAnn addr f = some e)
    (room : s.ros.entries.length < 24) :
    (rosterTook addr f s).ros = { s.ros with entries := insertEntry e s.ros.entries } ∧ NoticeTaken s (rosterTook addr f s) True := by
  have takes := rosterTakes_admitted unknown admits room
  refine ⟨(rosterTook_ros addr f s).trans (congrArg Prod.fst takes), ?_⟩
  have notice := rosterTook_notice addr f s
  rwa [takes, eq_self] at notice

/-- Only a STATUS and a DRIP of a segment up to 15 make an entry (R59, R60). -/
theorem readPeerFrame_declined {kind : BitVec 4} {p : List Byte}
    (other : kind = 0 ∨ 3 ≤ kind.toNat ∨ (kind = 2 ∧ 15 < (p.getD 0 0).toNat)) :
    readPeerFrame kind p = .clear ∨ readPeerFrame kind p = .leave ∨ readPeerFrame kind p = .unknown := by
  obtain zero | high | beyond := other
  · exact .inr (.inr (readPeerFrame_unknown (.inl zero)))
  · by_cases three : kind = 3
    · subst three
      by_cases fits : (p.getD 0 0).toNat ≤ 15
      · exact .inl (readPeerFrame_clear fits)
      · exact .inr (.inr (readPeerFrame_unknown (.inr (.inr (.inl ⟨rfl, Nat.lt_of_not_le fits⟩)))))
    · by_cases four : kind = 4
      · subst four
        exact .inr (.inl rfl)
      · exact .inr (.inr (readPeerFrame_unknown (.inr (.inl (by bv_omega)))))
  · exact .inr (.inr (readPeerFrame_unknown (.inr (.inr (.inr beyond)))))

/-- Settles O25: the entry that a STATUS makes while there is room, and what makes none. -/
theorem peerFrameAdmitsOrDeclines : Obligations.PeerFrameAdmitsOrDeclines := by
  unfold Obligations.PeerFrameAdmitsOrDeclines
  intro s bytes heard unknown f p leads
  refine ⟨fun status room => ?_, fun status full => ?_, fun other => ?_⟩
  · have runs := exec_peerFrame_roster heard (congrArg (readPeerFrame · p) status) (by rw [readPeerFrame_status]; nofun)
    obtain ⟨ros, notice⟩ := rosterTook_admitted (s := afterGoodFrame s bytes) (addr := f.src) (f := readPeerFrame 1 p) unknown rfl room
    obtain ⟨before, after, split, inserted, upTo, above⟩ := insertEntry_split _ s.ros.entries
    have overflow := congrArg Roster.overflow ros
    exact ⟨_, before, after, runs, notice, split, overflow, (congrArg Roster.entries ros).trans inserted, upTo, above⟩
  · have reads := (congrArg (readPeerFrame · p) status).trans (readPeerFrame_status p)
    have runs := exec_peerFrame_roster heard reads nofun
    rwa [rosterTook_quiet (rosterTakes_full (r := (afterGoodFrame s bytes).ros) unknown rfl full)] at runs
  · have declines {g : PeerFrame} (reads : readPeerFrame f.kind p = g) (noDrip : ∀ seg sev zones, g ≠ .drip seg sev zones)
        (none : admittedEntry s.sup.cfg.pAnn f.src g = Option.none) : leads (afterGoodFrame s bytes) := by
      have runs := exec_peerFrame_roster heard reads noDrip
      rwa [rosterTook_quiet (rosterTakes_declined (r := (afterGoodFrame s bytes).ros) unknown none)] at runs
    obtain clear | leave | unread := readPeerFrame_declined other
    · exact declines clear nofun rfl
    · exact declines leave nofun rfl
    · exact declines unread nofun rfl

/-! ## A DRIP -/

theorem armDependants_eq (event : Arming) (s : State) : armDependants event s = { s with wch := (armDependants event s).wch } := by
  refine foldl_induct (P := fun t => t = { s with wch := t.wch }) (fun t u same => ?_) allUnits rfl
  split
  · rw [same]
    rfl
  · exact same

theorem armUnit_disarmed {c : UnitConfig} {w : WatchUnit} (disarmed : w.status = .disarmed) :
    armUnit c w = { w with status := .armed, count := 0, window := if c.window = 0 then none else some (1000 * c.window) } := by
  simp [armUnit, disarmed, freshWindow, msec]

theorem armUnit_armed {c : UnitConfig} {w : WatchUnit} (armed : w.status = .armed) :
    armUnit c w = { w with window := if c.window = 0 then w.window else some (1000 * c.window) } := by
  by_cases endless : c.window = 0 <;> simp [armUnit, armed, freshWindow, msec, endless]

theorem armUnit_fired {c : UnitConfig} {w : WatchUnit} (fired : w.status = .fired) : armUnit c w = w := by simp [armUnit, fired]

theorem updateAttn_urgentTrigger (s : State) :
    updateAttn (urgentTrigger s) =
      { s with
        svc := { s.svc with attn := attnNow (updateAttn (urgentTrigger s)) }
        dsu :=
          if s.dsu.scan = .idle then
            { s.dsu with
              scan := .reference, scanNumber := s.dsu.scanNumber + 1, counter := some 0, timeBase := some 0, trefBefore := s.dsu.tref,
              refFaultsBefore := s.dsu.refFaults }
          else { s.dsu with rescan := true } } := rfl

/-- What the notice leaves alone of the blocks that a DRIP reaches. -/
theorem noticeTaken_rest {notice : Prop} (taken : NoticeTaken s n notice) :
    n.wch = s.wch ∧ n.svc = s.svc ∧ n.clk = s.clk ∧ n.sup.cfg = s.sup.cfg ∧ n.dsu.scan = s.dsu.scan := by
  obtain ⟨eq, -⟩ := taken
  refine ⟨by rw [eq], by rw [eq], by rw [eq], by rw [eq], ?_⟩
  rw [eq]
  dsimp only
  split <;> rfl

/-- The notice moves between ACTIVE and CONTAINED only. -/
theorem isEvaluating_of_notice {notice : Prop} (taken : NoticeTaken s n notice) : isEvaluating n.sup.mode = isEvaluating s.sup.mode := by
  obtain ⟨-, quiet, moves⟩ := taken
  by_cases noticed : notice
  · obtain ⟨other, between, none⟩ := moves noticed
    by_cases quorum : s.sup.cfg.quorum = 0
    · rw [none quorum]
    · by_cases here : s.sup.mode = .active ∨ s.sup.mode = .contained
      · rw [between here quorum]
        obtain here | here := here
        all_goals
          rw [here]
          split <;> rfl
      · rw [not_or] at here
        rw [other here.1 here.2]
  · rw [quiet noticed]

/-- A sample leaves the station in a mode that evaluates units: an ISOLATE action ends in ISOLATED. -/
theorem isEvaluating_deliverSample (src : Source) (v : Int) (on : isEvaluating s.sup.mode = true) :
    isEvaluating (deliverSample src v s).sup.mode = true := by
  have units : KeptByUnits fun t => isEvaluating t.sup.mode = true :=
    { unit := fun t u f _ => by simp
      marks := fun t u => by simp [markFired]
      left := fun t u => by simp [leaveFired]
      freeze := fun t r u _ => by simp
      drip := fun t v _ => by simp
      isolate := fun t holds => by
        obtain ⟨-, eq⟩ | ⟨-, eq⟩ | ⟨-, eq⟩ | ⟨-, eq⟩ | ⟨-, eq⟩ := isolateAction_cases t
        · rw [eq, enterIsolated_mode]
          rfl
        · rw [eq, enterIsolated_mode]
          rfl
        all_goals simpa [eq] using holds }
  exact units.deliverSample on src v

theorem peerDripArrival_off (addr : Address) (sev : Severity) (off : isEvaluating n.sup.mode = false) :
    peerDripArrival addr sev n = handEvent (.peerDrip addr sev) n := by
  simp [peerDripArrival, watchPeerDrip, dripPeerDrip, off]

theorem peerDripArrival_on (addr : Address) (sev : Severity) (on : isEvaluating n.sup.mode = true) :
    peerDripArrival addr sev n =
      urgentTrigger (deliverSample .peerDrip addr.toNat (armDependants .afterPeerDrip (handEvent (.peerDrip addr sev) n))) := by
  have watched : watchPeerDrip addr (handEvent (.peerDrip addr sev) n) =
      deliverSample .peerDrip addr.toNat (armDependants .afterPeerDrip (handEvent (.peerDrip addr sev) n)) := if_pos on
  rw [peerDripArrival, watched]
  exact if_pos (isEvaluating_deliverSample _ _ (by simpa using on))

/-- The notice that a DRIP of a known peer calls for. -/
theorem drip_notice_iff {seg : Segment} {sev : Severity} {zones : BitVec 4} :
    (e.mode ≠ (updatedEntry (.drip seg sev zones) e).mode ∨ e.segment ≠ (updatedEntry (.drip seg sev zones) e).segment ∨
        e.liveness = .stale) ↔
      (sev = .isolate ∧ e.mode ≠ .isolated) ∨ e.segment ≠ seg ∨ e.liveness = .stale := by
  by_cases isolates : sev = .isolate <;> simp [updatedEntry, refresh, isolates]

/-- Settles O26: the DRIP at the roster, and the arrival where the segment is the own one. -/
theorem dripFrameReachesTheThreeBlocks : Obligations.DripFrameReachesTheThreeBlocks := by
  unfold Obligations.DripFrameReachesTheThreeBlocks
  intro s bytes heard drip fits src p seg sev zones noted
  have reads : readPeerFrame (rxFrameOf bytes).kind p = .drip seg sev zones :=
    (congrArg (readPeerFrame · p) drip).trans (readPeerFrame_drip fits)
  have runs := exec_peerFrame heard
  rw [reads] at runs
  have notice := rosterTook_notice src (.drip seg sev zones) (afterGoodFrame s bytes)
  obtain ⟨wch, svc, clk, cfg, scan⟩ := noticeTaken_rest notice
  have evaluating := isEvaluating_of_notice notice
  refine ⟨rosterTook src (.drip seg sev zones) (afterGoodFrame s bytes), _, runs, fun e found => ?_, fun unknown room => ?_,
    fun unknown full => ?_, ?_⟩
  · obtain ⟨ros, notice⟩ := rosterTook_known (s := afterGoodFrame s bytes) (f := .drip seg sev zones) found nofun
    exact ⟨ros, propext drip_notice_iff ▸ notice⟩
  · obtain ⟨ros, notice⟩ := rosterTook_admitted (s := afterGoodFrame s bytes) (addr := src) (f := .drip seg sev zones) unknown rfl room
    obtain ⟨before, after, split, inserted, upTo, above⟩ := insertEntry_split _ s.ros.entries
    have overflow := congrArg Roster.overflow ros
    exact ⟨notice, overflow, before, after, split, (congrArg Roster.entries ros).trans inserted, upTo, above⟩
  · rw [rosterTook_quiet (rosterTakes_full (r := (afterGoodFrame s bytes).ros) (f := .drip seg sev zones) unknown rfl full)]
    exact ⟨noticeTaken_none _, rfl⟩
  have arrival := takeFrame_cases src (.drip seg sev zones) (afterGoodFrame s bytes)
  generalize rosterTook src (.drip seg sev zones) (afterGoodFrame s bytes) = n at *
  replace wch : n.wch = s.wch := wch
  replace svc : n.svc = s.svc := svc
  replace clk : n.clk = s.clk := clk
  replace cfg : n.sup.cfg = s.sup.cfg := cfg
  replace scan : n.dsu.scan = s.dsu.scan := scan
  refine ⟨fun other => ?_, fun own => ⟨fun off => ?_, fun on => ?_⟩⟩
  · obtain ⟨_, _, _, ⟨⟩, own, -⟩ | ⟨-, ends⟩ := arrival
    · exact absurd own other
    · rw [ends, ← svc]
      rfl
  all_goals
    replace arrival : takeFrame src (.drip seg sev zones) (afterGoodFrame s bytes) = peerDripArrival src sev n := by
      obtain ⟨_, _, _, ⟨⟩, -, arrives⟩ | ⟨other, -⟩ := arrival
      · exact arrives
      · exact absurd own (other _ _ _ rfl)
    rw [arrival]
  · rw [peerDripArrival_off src sev (evaluating.trans off), ← svc, ← clk]
    rfl
  · rw [peerDripArrival_on src sev (evaluating.trans on)]
    refine ⟨armDependants .afterPeerDrip (handEvent (.peerDrip src sev) n), ?_, fun u => ?_, ?_⟩
    · rw [← clk]
      exact armDependants_eq _ _
    · have unit := armDependants_units (s := handEvent (.peerDrip src sev) n) .afterPeerDrip u
      rw [handEvent_sup, handEvent_wch, cfg, wch] at unit
      refine ⟨fun stays => unit.trans ?_, fun arms disarmed => unit.trans ?_, fun arms armed => unit.trans ?_⟩
      · obtain other | fired := stays
        · exact if_neg other
        · rw [armUnit_fired fired, ite_self]
      · rw [if_pos arms, armUnit_disarmed disarmed]
      · rw [if_pos arms, armUnit_armed armed]
    · intro d
      have still : d.svc = s.svc := by simpa [d] using svc
      have scanning : d.dsu.scan = s.dsu.scan := by
        rw [deliverSample_dsu]
        simpa using scan
      rw [← still, ← scanning]
      exact updateAttn_urgentTrigger d

/-! ## Ageing (R67, R68) -/

theorem peerDemandSum_changeNotice (s : State) : peerDemandSum (changeNotice s) = peerDemandSum s := by
  simp only [peerDemandSum, changeNotice_ros]

theorem peerDemandSum_stale (addr : Address) :
    peerDemandSum { s with ros := { s.ros with entries := changeEntry addr staleEntry s.ros.entries } } = peerDemandSum s := by
  have same (acc : Nat) (x : Entry) :
      (if (if x.address = addr then staleEntry x else x).mode = .isolated then acc
        else acc + (if x.address = addr then staleEntry x else x).demand) = if x.mode = .isolated then acc else acc + x.demand := by
    split <;> rfl
  simp only [peerDemandSum, changeEntry, List.foldl_map, same]

/-- At its STALE point an entry keeps its silence. -/
theorem staleEntry_due (due : e.silence = 1000 * (3 * e.period)) : staleEntry e = { e with liveness := .stale } := by
  simp [staleEntry, msec, due]

/-- Settles O27: the entry marked or taken out, and the notice. -/
theorem entryAgeingMarksAndRemoves : Obligations.EntryAgeingMarksAndRemoves := by
  unfold Obligations.EntryAgeingMarksAndRemoves
  intro s addr e ascending found leads
  refine ⟨fun live due => ?_, fun due => ?_⟩
  · have runs : exec (.entryStale addr) s =
        .next (updateAttn (changeNotice { s with ros := { s.ros with entries := changeEntry addr staleEntry s.ros.entries } })) := by
      refine congrArg Host.Outcome.next ?_
      simp only [entryStale, found, live, if_true]
      rfl
    refine ⟨_, ⟨noticeTaken_changed _, runs.trans (congrArg _ (updateAttn_of_svc (changeNotice_svc _)))⟩, ?_, ?_, ?_⟩
    · rw [changeNotice_isolationCount]
      exact isolationCount_changeEntry (s := s) fun _ _ _ => ⟨rfl, rfl⟩
    · exact (peerDemandSum_changeNotice _).trans (peerDemandSum_stale addr)
    · rw [changeNotice_ros]
      refine congrArg (fun l => { s.ros with entries := l }) (List.map_congr_left fun x mem => ?_)
      split
      case isTrue here =>
        rw [eq_of_findEntry ascending found mem here, staleEntry_due due]
      case isFalse other => rfl
  · have runs : exec (.entryRemoval addr) s = .next (updateAttn (changeNotice { s with ros := removeEntry addr s.ros })) := by
      refine congrArg Host.Outcome.next ?_
      simp only [entryRemoval, found]
      rfl
    exact ⟨_, ⟨noticeTaken_changed _, runs.trans (congrArg _ (updateAttn_of_svc (changeNotice_svc _)))⟩, changeNotice_ros _⟩

end Sys2Proof.Machine
end

section
/-! PROOF. A frame that a station composes, as a peer reads it (R30, R32 to R34, R58, R175): O28. -/

namespace Sys2Proof.Machine

open Safety

variable {s : State}

/-! ## Bytes of two fields -/

theorem extract_high {m n : Nat} (x : BitVec m) (y : BitVec n) : (x ++ y).extractLsb' n m = x := by
  rw [BitVec.extractLsb'_append_eq_of_le (Nat.le_refl n), Nat.sub_self, BitVec.extractLsb'_eq_self]

theorem extract_low {m n : Nat} (x : BitVec m) (y : BitVec n) : (x ++ y).extractLsb' 0 n = y := by
  rw [BitVec.extractLsb'_append_eq_of_add_le (Nat.zero_add n).le, BitVec.extractLsb'_eq_self]

theorem toNat_append_mod {m n : Nat} (x : BitVec m) (y : BitVec n) : (x ++ y).toNat % 2 ^ n = y.toNat := by
  have low := congrArg BitVec.toNat (extract_low x y)
  simpa only [BitVec.extractLsb'_toNat, Nat.shiftRight_zero] using low

/-! ## A whole frame -/

/-- The header and the payload of a frame, which its check is run over (R30). -/
def frameBody (cls : BitVec 3) (src : Address) (kind : BitVec 4) (payload : List Byte) : List Byte :=
  headerByte0 cls src :: headerByte1 kind (BitVec.ofNat 4 payload.length) :: payload

theorem frameBytes_eq (cls : BitVec 3) (src : Address) (kind : BitVec 4) (payload : List Byte) :
    frameBytes cls src kind payload = frameBody cls src kind payload ++ [crc (frameBody cls src kind payload)] := rfl

theorem frameBytes_length (cls : BitVec 3) (src : Address) (kind : BitVec 4) (payload : List Byte) :
    (frameBytes cls src kind payload).length = 3 + payload.length := by
  rw [frameBytes_eq]
  simp [frameBody]
  omega

/-- The check of a composed frame is right (R30). -/
theorem frameBytes_checks (cls : BitVec 3) (src : Address) (kind : BitVec 4) (payload : List Byte) :
    crc (frameBytes cls src kind payload).dropLast = (frameBytes cls src kind payload).getLastD 0 := by
  rw [frameBytes_eq, List.dropLast_concat, List.getLastD_concat]

theorem frameLengthField_frameBytes (cls : BitVec 3) (src : Address) (kind : BitVec 4) {payload : List Byte}
    (short : payload.length < 16) : frameLengthField (frameBytes cls src kind payload) = payload.length :=
  (toNat_append_mod kind (BitVec.ofNat 4 payload.length)).trans (by simpa using short)

theorem rxFrameOf_frameBytes (cls : BitVec 3) (src : Address) (kind : BitVec 4) (payload : List Byte) :
    rxFrameOf (frameBytes cls src kind payload) =
      { cls := cls, src := src, kind := kind, len := BitVec.ofNat 4 payload.length, payload := payload } := by
  have payloads : ((frameBytes cls src kind payload).drop 2).dropLast = payload := by
    rw [frameBytes_eq]
    simp [frameBody]
  have cls' : (headerByte0 cls src).extractLsb' 5 3 = cls := extract_high cls src
  have src' : (headerByte0 cls src).extractLsb' 0 5 = src := extract_low cls src
  have kind' : (headerByte1 kind (BitVec.ofNat 4 payload.length)).extractLsb' 4 4 = kind := extract_high _ _
  have len' : (headerByte1 kind (BitVec.ofNat 4 payload.length)).extractLsb' 0 4 = BitVec.ofNat 4 payload.length := extract_low _ _
  show RxFrame.mk ((headerByte0 cls src).extractLsb' 5 3) ((headerByte0 cls src).extractLsb' 0 5)
    ((headerByte1 kind (BitVec.ofNat 4 payload.length)).extractLsb' 4 4)
    ((headerByte1 kind (BitVec.ofNat 4 payload.length)).extractLsb' 0 4) ((frameBytes cls src kind payload).drop 2).dropLast = _
  rw [payloads, cls', src', kind', len']

/-! ## The fields of a STATUS and of the event frames -/

theorem flagsOfByte_flagsByte (f : Flags) : flagsOfByte (flagsByte f) = f := by
  obtain ⟨a, b, c, d, e⟩ := f
  revert a b c d e
  decide

theorem heldFlow_be16 {n : Nat} (fits : n ≤ 2000) (p : List Byte) (i : Nat)
    (high : p.getD i 0 = BitVec.ofNat 8 (n / 256)) (low : p.getD (i + 1) 0 = BitVec.ofNat 8 n) : heldFlow (payloadU16 p i) = n := by
  have value := be16_value (n := n) (by omega)
  rw [heldFlow, payloadU16, high, low, value]
  omega

theorem toNat_setWidth_le (seg : Segment) : (seg.setWidth 8).toNat ≤ 15 := by
  revert seg
  decide

theorem extract_setWidth (x : BitVec 4) : (x.setWidth 8).extractLsb' 0 4 = x := by
  revert x
  decide

theorem heldSegment_setWidth (seg : Segment) : heldSegment (seg.setWidth 8) = some seg := by
  rw [heldSegment_of_le (toNat_setWidth_le seg), extract_setWidth]

/-- Settles O28: each frame by its bytes. -/
theorem sentFramesReadBackAtAPeer : Obligations.SentFramesReadBackAtAPeer := by
  unfold Obligations.SentFramesReadBackAtAPeer
  refine ⟨fun s m mode demand flow least most => ?_, fun src e => ?_⟩
  · intro bytes f
    have reads : f = { cls := 2, src := ownAddress s, kind := 1, len := 8, payload := statusPayload s } := rxFrameOf_frameBytes _ _ _ _
    have short : (statusPayload s).length < 16 := Nat.le_of_ble_eq_true rfl
    refine ⟨frameBytes_length _ _ _ _, frameLengthField_frameBytes _ _ _ short, frameBytes_checks _ _ _ _, ?_⟩
    rw [reads]
    refine ⟨rfl, rfl, rfl, rfl, ?_⟩
    have modes : peerModeOf (modeCode s.sup.mode) = m := by
      obtain ⟨here, rfl⟩ | ⟨here, rfl⟩ | ⟨here, rfl⟩ := mode
      all_goals
        rw [here]
        rfl
    have flows : heldFlow (payloadU16 (statusPayload s) 4) = if s.msu.known then s.msu.flow else 0 :=
      heldFlow_be16 (n := statusFlow s) (by unfold statusFlow; split <;> omega) _ _ rfl rfl
    have demands : heldFlow (payloadU16 (statusPayload s) 2) = s.shr.demand := heldFlow_be16 demand _ _ rfl rfl
    have period : heldPeriod (byteOf s.sup.cfg.pAnnUnits).toNat = 50 * s.sup.cfg.pAnnUnits := by
      rw [byteOf_value (by omega), heldPeriod]
      omega
    show PeerFrame.status ((ownSegment s ++ zoneMask s : Byte).extractLsb' 4 4) (peerModeOf (modeCode s.sup.mode))
      (flagsOfByte (flagsByte (stationFlags s))) (heldFlow (payloadU16 (statusPayload s) 2)) (heldFlow (payloadU16 (statusPayload s) 4))
      ((ownSegment s ++ zoneMask s : Byte).extractLsb' 0 4) (heldPeriod (byteOf s.sup.cfg.pAnnUnits).toNat) = _
    rw [extract_high, extract_low, modes, flagsOfByte_flagsByte, flows, demands, period]
  · intro bytes f
    have reads : f = RxFrame.mk (eventParts e).1 src (eventParts e).2.1 (BitVec.ofNat 4 (eventParts e).2.2.length) (eventParts e).2.2 :=
      rxFrameOf_frameBytes _ _ _ _
    have short : (eventParts e).2.2.length < 16 := by cases e <;> exact Nat.le_of_ble_eq_true rfl
    refine ⟨?_, frameBytes_checks _ _ _ _, ?_⟩
    · rw [show frameLengthField bytes = _ from frameLengthField_frameBytes _ _ _ short]
      exact frameBytes_length _ _ _ _
    · rw [reads]
      have drip (seg : Segment) (v : Severity) (zones : BitVec 4) (units : BitVec 8) :
          readPeerFrame 2 [seg.setWidth 8, severityCode v, zones.setWidth 8, units] =
            .drip seg (heldSeverity (severityCode v)) zones := by
        rw [readPeerFrame, if_neg (by decide), if_pos rfl]
        show (match heldSegment (seg.setWidth 8) with
          | some seg => PeerFrame.drip seg (heldSeverity (severityCode v)) ((zones.setWidth 8).extractLsb' 0 4)
          | none => .unknown) = _
        rw [heldSegment_setWidth, extract_setWidth]
      refine ⟨by cases e <;> rfl, rfl, ?_, ?_, ?_, ?_⟩
      · rintro seg zones units rfl
        exact ⟨rfl, drip _ _ _ _, rfl⟩
      · rintro seg zones units rfl
        exact ⟨rfl, drip _ _ _ _, rfl⟩
      · rintro seg rfl
        refine ⟨rfl, ?_, rfl⟩
        show readPeerFrame 3 [seg.setWidth 8] = .clear
        exact readPeerFrame_clear (toNat_setWidth_le seg)
      · rintro rfl
        exact ⟨rfl, rfl, rfl⟩

end Sys2Proof.Machine
end

section
/-! PROOF. The triggers of scans, the end of the reference phase and the reference fault (R74 to R76, R84, R85): O29, O30, O31. -/

namespace Sys2Proof.Machine

open Safety

variable {s t x : State}

/-! ## Triggers -/

theorem urgentTrigger_idle (idle : s.dsu.scan = .idle) : urgentTrigger s = { s with dsu := beginScan s.dsu } := by
  simp [urgentTrigger, State.mapDsu, idle]

theorem urgentTrigger_scanning (busy : s.dsu.scan ≠ .idle) : urgentTrigger s = { s with dsu := { s.dsu with rescan := true } } := by
  simp [urgentTrigger, State.mapDsu, busy]

theorem isEvaluating_iff {m : Mode} :
    isEvaluating m = true ↔ m = .joining ∨ m = .active ∨ m = .contained ∨ m = .isolated ∨ m = .conflict := by
  cases m <;> decide

theorem exec_scan (high : s.clk.held = false) :
    exec .scan s =
      .next (if isEvaluating s.sup.mode then answer .ok [] (urgentTrigger s) else answer .wrongMode [] s) :=
  congrArg Host.Outcome.next (whenReleased_of_released high)

/-- Settles O29: the trigger by the scan state. -/
theorem scanTriggersStartOrWait : Obligations.ScanTriggersStartOrWait := by
  unfold Obligations.ScanTriggersStartOrWait
  intro s begun ok
  refine ⟨fun n runs => ?_, fun high awake => ?_, fun high asleep => ?_⟩
  · intro d
    have expires : exec .scanTimerExpiry s = .next (timerTrigger { s with dsu := d }) := by
      refine congrArg Host.Outcome.next ?_
      simp only [scanTimerExpiry, runs]
      rfl
    rw [expires]
    refine ⟨fun idle => ?_, fun busy => ?_⟩
    · simp [timerTrigger, State.mapDsu, show d.scan = .idle from idle]
      rfl
    · simp [timerTrigger, State.mapDsu, show d.scan ≠ .idle from busy]
  · rw [exec_scan high, if_pos (isEvaluating_iff.2 awake)]
    refine ⟨fun idle => ?_, fun busy => ?_⟩
    · rw [urgentTrigger_idle idle]
      rfl
    · rw [urgentTrigger_scanning busy]
      rfl
  · rw [exec_scan high, if_neg]
    · rfl
    · obtain starting | parked := asleep
      · simp [starting, isEvaluating]
      · simp [parked, isEvaluating]

/-! ## The reference phase -/

/-- Settles O30: a count below the fault's ends the phase. -/
theorem referencePhaseEndStartsTheSensorPhases : Obligations.ReferencePhaseEndStartsTheSensorPhases := by
  unfold Obligations.ReferencePhaseEndStartsTheSensorPhases
  intro s b ticks reference counts least
  have counted : s.dsu.timeBase.getD 0 + ticks = b + ticks := by rw [counts]; rfl
  refine ⟨fun most => ?_, fun beyond => ?_⟩
  · have ends : exec (.referencePhaseEnd ticks) s = .next (_) := congrArg Host.Outcome.next (if_pos ⟨reference, by omega, by omega⟩)
    refine ⟨_, ends, ?_⟩
    simp only [counted]
    exact ⟨rfl, rfl, rfl, rfl, rfl, rfl, rfl, rfl, rfl, rfl, rfl, rfl, rfl⟩
  · exact congrArg Host.Outcome.next (if_neg (by rw [counted]; omega))

/-! ## What the requests and a DRIP read -/

theorem openRequest_congr (vlv : t.vlv = s.vlv) (cap : t.cap = s.cap) (clk : t.clk = s.clk) (cfg : t.sup.cfg = s.sup.cfg) :
    (openRequest t).vlv = (openRequest s).vlv ∧ (openRequest t).cap = (openRequest s).cap := by
  unfold openRequest
  rw [vlv]
  cases s.vlv.valve <;> simp [vlv, cap, clk, cfg]

theorem closeRequest_congr (vlv : t.vlv = s.vlv) (cap : t.cap = s.cap) (clk : t.clk = s.clk) (cfg : t.sup.cfg = s.sup.cfg) :
    (closeRequest t).vlv = (closeRequest s).vlv ∧ (closeRequest t).cap = (closeRequest s).cap := by
  unfold closeRequest
  rw [vlv]
  cases s.vlv.valve <;> simp [vlv, cap, clk, cfg]

theorem closeRequest_vlv_congr (vlv : t.vlv = s.vlv) (cfg : t.sup.cfg = s.sup.cfg) : (closeRequest t).vlv = (closeRequest s).vlv := by
  unfold closeRequest
  rw [vlv]
  cases s.vlv.valve <;> simp [vlv, cfg]

theorem zoneMask_congr (wch : t.wch = s.wch) (cfg : t.sup.cfg = s.sup.cfg) : zoneMask t = zoneMask s := by
  have marks (z : Fin 4) : marksZone t z = marksZone s z := by
    funext u
    simp only [marksZone, isFired, wch, cfg]
  simp only [zoneMask, marks]

theorem unitMask_congr (wch : t.wch = s.wch) : unitMask t = unitMask s := by
  simp only [unitMask, isFired, wch]

/-! ## The reference fault -/

theorem sensorFaultNow_of_refFaults (counted : 0 < s.dsu.refFaults) : sensorFaultNow s = true := by
  simp [sensorFaultNow, counted]

theorem endScan_dsu (s : State) :
    (endScan s).dsu =
      if s.dsu.rescan then beginScan { s.dsu with rescan := false, scanTimer := scanTimerAtEnd s }
      else { s.dsu with scan := .idle, counter := none, timeBase := none, scanTimer := scanTimerAtEnd s } := by
  cases rescan : s.dsu.rescan
  · rw [endScan_of_no_rescan rescan]
    rfl
  · rw [endScan_of_rescan rescan]
    rfl

/-- In JOINING the scan timer runs after the scan; elsewhere it stays (R85). -/
theorem endScan_dsu_of {d : DripUnit} {timer : Option Nat} (dsu : s.dsu = { d with scanTimer := s.dsu.scanTimer })
    (runs : scanTimerAtEnd s = timer) :
    (endScan s).dsu =
      if d.rescan then beginScan { d with rescan := false, scanTimer := timer }
      else { d with scan := .idle, counter := none, timeBase := none, scanTimer := timer } := by
  rw [endScan_dsu, runs, dsu]

theorem scanTimerAtEnd_joining (joining : s.sup.mode = .joining) :
    scanTimerAtEnd s = some (s.dsu.scanTimer.getD (1000 * s.sup.cfg.scanPeriod)) := if_pos joining

theorem scanTimerAtEnd_other (other : s.sup.mode ≠ .joining) : scanTimerAtEnd s = s.dsu.scanTimer := if_neg other

theorem endScan_eq (s : State) : endScan s = { s with dsu := (endScan s).dsu } := by
  cases rescan : s.dsu.rescan
  · rw [endScan_of_no_rescan rescan]
  · rw [endScan_of_rescan rescan]

theorem endScan_refFaults (s : State) : (endScan s).dsu.refFaults = s.dsu.refFaults := by
  rw [endScan_dsu]
  split <;> rfl

/-- The end of the faulted scan: with the fault counted SENSOR_FAULT stands, and ATTN with it. -/
theorem faultEnded_eq (counted : 0 < x.dsu.refFaults) :
    updateAttn (endScan (reevalSensorFault x)) =
      { x with sup := { x.sup with sensorFault := true }, dsu := (endScan x).dsu, svc := { x.svc with attn := true } } := by
  have fault : reevalSensorFault x = { x with sup := { x.sup with sensorFault := true } } := by
    rw [← sensorFaultNow_of_refFaults counted]
    rfl
  have ended : endScan (reevalSensorFault x) = { x with sup := { x.sup with sensorFault := true }, dsu := (endScan x).dsu } := by
    rw [fault, endScan_eq, endScan_dsu, endScan_dsu x]
    rfl
  have attn : attnNow (endScan (reevalSensorFault x)) = true := by
    rw [ended]
    simp [attnNow]
  rw [updateAttn, attn, ended]
  rfl

/-- The record of the fault and its count. -/
def faulted (s : State) : State :=
  { s with
    dsu := { s.dsu with refFaults := min (s.dsu.refFaults + 1) 255 }
    cap := appendRecord { time := s.clk.ms, body := .event .refFault } s.cap }

theorem exec_referenceFault (reference : s.dsu.scan = .reference) :
    exec .referenceFault s =
      .next (updateAttn
        (if dryCheckWaits s && dryCheckWaits (endScan (reevalSensorFault (if dryCheckWaits s then joinFault (faulted s) else faulted s))) then
          urgentTrigger (endScan (reevalSensorFault (if dryCheckWaits s then joinFault (faulted s) else faulted s)))
        else endScan (reevalSensorFault (if dryCheckWaits s then joinFault (faulted s) else faulted s)))) :=
  congrArg Host.Outcome.next (referenceFault_scanning reference)

theorem dryCheckWaits_iff : dryCheckWaits s = true ↔ s.sup.mode = .joining ∧ s.sup.dryCheck = .pending := by simp [dryCheckWaits]

/-- Outside a waiting dry check the fault ends the scan and no more. -/
theorem exec_referenceFault_alone (reference : s.dsu.scan = .reference) (alone : ¬(s.sup.mode = .joining ∧ s.sup.dryCheck = .pending)) :
    exec .referenceFault s = .next (updateAttn (endScan (reevalSensorFault (faulted s)))) := by
  have none : dryCheckWaits s = false := Bool.eq_false_iff.2 (mt dryCheckWaits_iff.1 alone)
  rw [exec_referenceFault reference, none]
  rfl

/-- Where the fault has resolved the dry check the scan ends without a retry. -/
theorem exec_referenceFault_resolved (reference : s.dsu.scan = .reference) (waits : s.sup.mode = .joining ∧ s.sup.dryCheck = .pending)
    (resolved : (joinFault (faulted s)).sup.dryCheck ≠ .pending) :
    exec .referenceFault s = .next (updateAttn (endScan (reevalSensorFault (joinFault (faulted s))))) := by
  have done : dryCheckWaits (endScan (reevalSensorFault (joinFault (faulted s)))) = false :=
    Bool.eq_false_iff.2 fun still => resolved (by simpa using (dryCheckWaits_iff.1 still).2)
  rw [exec_referenceFault reference, dryCheckWaits_iff.2 waits]
  simp only [if_true, done, Bool.and_false]
  rfl

/-- Where the dry check still waits the scan is asked for again (R10). -/
theorem exec_referenceFault_retried (reference : s.dsu.scan = .reference) (waits : s.sup.mode = .joining ∧ s.sup.dryCheck = .pending)
    (still : (joinFault (faulted s)).sup.mode = .joining ∧ (joinFault (faulted s)).sup.dryCheck = .pending) :
    exec .referenceFault s = .next (urgentTrigger (updateAttn (endScan (reevalSensorFault (joinFault (faulted s)))))) := by
  have retries : dryCheckWaits (endScan (reevalSensorFault (joinFault (faulted s)))) = true :=
    dryCheckWaits_iff.2 (by simpa using still)
  rw [exec_referenceFault reference, dryCheckWaits_iff.2 waits]
  simp only [if_true, retries, Bool.and_self]
  rfl

/-- The first and the second fault of a join ask for a retry. -/
theorem joinFault_few (few : s.sup.joinFaults < 2) : joinFault s = { s with sup := { s.sup with joinFaults := s.sup.joinFaults + 1 } } :=
  if_pos (show s.sup.joinFaults + 1 < 3 by omega)

/-- The third one degrades the station (R10). -/
def degraded (s : State) : State := { s with sup := { s.sup with joinFaults := 3, joinDegrade := true } }

/-- The third one passes the dry check of a dry station (R10). -/
def degradedPass (s : State) : State := { degraded (faulted s) with sup := { (degraded (faulted s)).sup with dryCheck := .passed } }

theorem joinFault_third (two : s.sup.joinFaults = 2) :
    joinFault s = if allUnits.any (isFiredIsolate s) then enterIsolated (failDryCheck (degraded s)) else passDryCheck (degraded s) := by
  have third : (s.mapSup fun p => { p with joinFaults := p.joinFaults + 1 }) = { s with sup := { s.sup with joinFaults := 3 } } := by
    rw [State.mapSup, two]
  simp only [joinFault, third, Nat.lt_irrefl, if_false]
  rfl

theorem passDryCheck_early (early : s.sup.joinExpired = false) :
    passDryCheck s = openRequest { s with sup := { s.sup with dryCheck := .passed } } := by
  exact if_neg (by simpa using early)

theorem passDryCheck_expired (expired : s.sup.joinExpired = true) :
    passDryCheck s = goActive (openRequest { s with sup := { s.sup with dryCheck := .passed } }) := by
  exact if_pos (by simpa using expired)

theorem any_firedIsolate_iff :
    allUnits.any (isFiredIsolate s) = true ↔ ∃ u : Fin 8, s.wch.units[u].status = .fired ∧ s.sup.cfg.units[u].action = .isolate := by
  simp [isFiredIsolate, isFired, mem_allUnits]

/-- Settles O31. -/
theorem referenceFaultEndsTheScan : Obligations.ReferenceFaultEndsTheScan := by
  unfold Obligations.ReferenceFaultEndsTheScan
  intro s reference faults record faulty running begun ended frame sending wet contains opened
  have counted : 0 < (faulted s).dsu.refFaults := by
    show 0 < min (s.dsu.refFaults + 1) 255
    omega
  refine ⟨fun alone => ?_, fun joining pending => ⟨fun few => ?_, fun two dry early => ?_, fun two dry expired => ?_, fun two isWet => ?_⟩⟩
  · refine ⟨_, exec_referenceFault_alone reference alone, ?_⟩
    rw [faultEnded_eq counted]
    refine ⟨⟨rfl, rfl, rfl, rfl, rfl, rfl, rfl, rfl⟩, ?_, rfl, rfl, rfl, rfl⟩
    rw [endScan_dsu]
    rfl
  all_goals
    have waits : s.sup.mode = .joining ∧ s.sup.dryCheck = .pending := ⟨joining, pending⟩
  · have x : joinFault (faulted s) = { faulted s with sup := { s.sup with joinFaults := s.sup.joinFaults + 1 } } :=
      joinFault_few (s := faulted s) few
    have timer : scanTimerAtEnd (joinFault (faulted s)) = running := by
      rw [x]
      exact scanTimerAtEnd_joining joining
    have scanEnded : (endScan (joinFault (faulted s))).dsu = ended running := by
      rw [endScan_dsu_of (d := (faulted s).dsu) (by rw [x]) timer]
      rfl
    refine ⟨_, exec_referenceFault_retried reference waits (by rw [x]; exact waits), ?_⟩
    rw [faultEnded_eq (by rw [x]; exact counted), scanEnded, x]
    refine ⟨⟨rfl, rfl, rfl, rfl, rfl, rfl, rfl, rfl⟩, rfl, ?_, rfl, rfl, rfl⟩
    cases rescan : s.dsu.rescan <;> simp [ended, rescan, urgentTrigger_dsu, beginScan, begun]
  all_goals
    have framed : frame { joinFault (faulted s) with
        sup := { (joinFault (faulted s)).sup with sensorFault := true }
        dsu := (endScan (joinFault (faulted s))).dsu
        svc := { (joinFault (faulted s)).svc with attn := true } } := by simp [frame, faulted]
  · have x : joinFault (faulted s) = openRequest (degradedPass s) := by
      rw [joinFault_third (s := faulted s) two, if_neg (mt (any_firedIsolate_iff (s := faulted s)).1 dry)]
      exact passDryCheck_early early
    obtain ⟨vlv, cap⟩ := openRequest_congr (s := { s with cap := faulty }) (t := degradedPass s) rfl rfl rfl rfl
    refine ⟨_, exec_referenceFault_resolved reference waits (by rw [x, openRequest_sup]; nofun), ?_⟩
    rw [faultEnded_eq (by rw [x, openRequest_dsu]; exact counted)]
    refine ⟨framed, ?_, ?_, ?_, ?_, ?_⟩
    · rw [x, openRequest_sup]
      rfl
    · refine endScan_dsu_of (d := (faulted s).dsu) ?_ ((scanTimerAtEnd_joining ?_).trans ?_)
      all_goals rw [x]
      · rw [openRequest_dsu]
        rfl
      · rw [openRequest_sup]
        exact joining
      · rw [openRequest_dsu, openRequest_sup]
        rfl
    · rw [x]
      exact cap
    · rw [x, openRequest_lnk]
      rfl
    · rw [x]
      exact vlv
  · have x : joinFault (faulted s) = goActive (openRequest (degradedPass s)) := by
      rw [joinFault_third (s := faulted s) two, if_neg (mt (any_firedIsolate_iff (s := faulted s)).1 dry)]
      exact passDryCheck_expired expired
    have count : isolationCount (openRequest (degradedPass s)) = isolationCount s :=
      isolationCount_congr (openRequest_ros _) (by rw [openRequest_sup]; rfl)
    obtain ⟨vlv, cap⟩ := openRequest_congr (s := { s with cap := faulty }) (t := degradedPass s) rfl rfl rfl rfl
    refine ⟨_, exec_referenceFault_resolved reference waits (by rw [x, goActive_sup, openRequest_sup]; nofun), ?_⟩
    rw [faultEnded_eq (by rw [x, goActive_dsu, openRequest_dsu]; exact counted)]
    refine ⟨framed, ?_, ?_, ?_, ?_, ?_⟩
    · rw [x, goActive_sup, count, openRequest_sup]
      rfl
    · refine endScan_dsu_of (d := (faulted s).dsu) ?_ ((scanTimerAtEnd_other ?_).trans ?_)
      all_goals rw [x]
      · rw [goActive_dsu, openRequest_dsu]
        rfl
      · rw [goActive_mode]
        split <;> nofun
      · rw [goActive_dsu, openRequest_dsu, openRequest_sup]
        rfl
    · rw [x, goActive_lnk, openRequest_lnk, openRequest_sup]
      show { s.lnk with
        statusPending := true, renewed := s.lnk.renewed || statusInFlight (openRequest (degradedPass s))
        announce := if isSending s.sup.mode then s.lnk.announce else some (1000 * s.sup.cfg.pAnn) } = sending
      rw [joining]
      simp [sending, statusInFlight, isSending, degradedPass, degraded, faulted]
    · rw [x, goActive_vlv]
      exact vlv
    · rw [x, goActive_cap, count, cap, openRequest_sup, openRequest_clk]
      rfl
  · have x : joinFault (faulted s) = queueDrip .isolate (closeRequest (changeMode .isolated (failDryCheck (degraded (faulted s))))) := by
      rw [joinFault_third (s := faulted s) two, if_pos ((any_firedIsolate_iff (s := faulted s)).2 isWet), enterIsolated_eq]
    have dsu : (joinFault (faulted s)).dsu = { (faulted s).dsu with scanTimer := running } := by
      rw [x, queueDrip_dsu, closeRequest_dsu, changeMode_dsu, if_pos (.inl rfl)]
      rfl
    obtain ⟨vlv, cap⟩ := closeRequest_congr (s := { s with cap := record (.mode .isolated) faulty })
      (t := changeMode .isolated (failDryCheck (degraded (faulted s)))) (by simp [degraded, faulted])
      (by rw [changeMode_cap]; rfl) (by simp [degraded, faulted]) (by simp [degraded, faulted])
    refine ⟨_, exec_referenceFault_resolved reference waits (by rw [x]; simp [failDryCheck]), ?_⟩
    rw [faultEnded_eq (by rw [dsu]; exact counted)]
    refine ⟨framed, ?_, ?_, ?_, ?_, ?_⟩
    · rw [x, queueDrip_sup, closeRequest_sup, changeMode_sup]
      rfl
    · refine endScan_dsu_of (d := (faulted s).dsu) ?_ ((scanTimerAtEnd_other ?_).trans ?_)
      · rw [dsu]
      · rw [x]
        simp
      · rw [dsu]
    · have wch : (closeRequest (changeMode .isolated (failDryCheck (degraded (faulted s))))).wch = s.wch := by
        rw [closeRequest_wch, changeMode_wch]
        rfl
      have sup : (closeRequest (changeMode .isolated (failDryCheck (degraded (faulted s))))).sup =
          { (failDryCheck (degraded (faulted s))).sup with mode := .isolated } := by rw [closeRequest_sup, changeMode_sup]
      rw [x, queueDrip_lnk, closeRequest_lnk, changeMode_lnk, if_pos (show isSending .isolated = true from rfl), zoneMask_congr wch (by rw [sup]; rfl), unitMask_congr wch,
        ownSegment, sup]
      show ({ s.lnk with
        statusPending := true, renewed := s.lnk.renewed || statusInFlight (failDryCheck (degraded (faulted s)))
        announce := if isSending s.sup.mode then s.lnk.announce else some (msec s.sup.cfg.pAnn)
        queue := enqueueFrame (.drip (s.sup.ownSeg.getD 0) .isolate (zoneMask s) (unitMask s)) s.lnk.queue } : Link) = _
      rw [joining]
      rfl
    · rw [x, queueDrip_vlv]
      exact vlv.trans (closeRequest_vlv_congr rfl rfl)
    · rw [x, queueDrip_cap]
      exact cap

end Sys2Proof.Machine
end

section
/-! PROOF. A sample at one unit and at all of them, a firing with its action, a window's expiry (R106 to R123): O40. -/

namespace Sys2Proof.Machine

open Safety

variable {s t x : State} {u k : Fin 8} {v : Int}

/-! ## An isolation in a frozen capture -/

theorem changeMode_isolated (s : State) :
    changeMode .isolated s =
      { s with
        sup := { s.sup with mode := .isolated }
        lnk := { s.lnk with
          statusPending := true, renewed := s.lnk.renewed || statusInFlight s
          announce := if isSending s.sup.mode then s.lnk.announce else some (1000 * s.sup.cfg.pAnn) }
        dsu := { s.dsu with scanTimer := some (s.dsu.scanTimer.getD (1000 * s.sup.cfg.scanPeriod)) }
        cap := appendRecord { time := s.clk.ms, body := .event (.mode .isolated) } s.cap } := rfl

theorem closeRequest_frozen (frozen : s.cap.frozen = true) : closeRequest s = { s with vlv := (closeRequest s).vlv } := by
  unfold closeRequest
  cases s.vlv.valve with
  | closed | stuck | closing => rfl
  | opening | opened =>
    show { s with vlv := _, cap := appendRecord _ s.cap } = _
    rw [appendRecord_frozen _ _ frozen]
    rfl

theorem enterIsolated_frozen (frozen : s.cap.frozen = true) :
    enterIsolated s =
      { s with
        sup := { s.sup with mode := .isolated }
        lnk := { s.lnk with
          statusPending := true, renewed := s.lnk.renewed || statusInFlight s
          announce := if isSending s.sup.mode then s.lnk.announce else some (1000 * s.sup.cfg.pAnn)
          queue := enqueueFrame (.drip (ownSegment s) .isolate (zoneMask s) (unitMask s)) s.lnk.queue }
        dsu := { s.dsu with scanTimer := some (s.dsu.scanTimer.getD (1000 * s.sup.cfg.scanPeriod)) }
        vlv := (closeRequest s).vlv } := by
  have moved := changeMode_isolated s
  rw [appendRecord_frozen _ _ frozen] at moved
  have shut : closeRequest (changeMode .isolated s) = { changeMode .isolated s with vlv := (closeRequest s).vlv } := by
    rw [closeRequest_frozen (by rw [moved]; exact frozen), closeRequest_vlv_congr (changeMode_vlv s _) (changeMode_cfg s _)]
  rw [enterIsolated_eq, shut, moved]
  rfl

/-! ## A firing -/

theorem markFired_eq (u : Fin 8) (s : State) :
    markFired u s =
      { s with
        wch := (markFired u s).wch
        cap := appendRecord { time := s.clk.ms, body := .event (.unitFired u) } s.cap
        sup := { s.sup with watchFired := true } } := rfl

theorem fireUnit_eq (u : Fin 8) (s : State) : fireUnit u s = { runAction u (markFired u s) with wch := (fireUnit u s).wch } :=
  armDependants_eq _ _

theorem requestFreeze_eq (r : FreezeReason) (u : Option (Fin 8)) (s : State) :
    requestFreeze r u s =
      { s with cap := if s.cap.frozen then s.cap else { s.cap with frozen := true, reason := r, unit := u, time := some s.clk.ms } } := rfl

/-- A firing brings the unit into FIRED and no other. -/
theorem fired_fireUnit (u k : Fin 8) (s : State) :
    (fireUnit u s).wch.units[k].status = .fired ↔ (markFired u s).wch.units[k].status = .fired := by
  rw [fireUnit_units, markFired_units, firedUnit]
  split
  · rfl
  · split
    · obtain ⟨was, eq⟩ | ⟨was, eq⟩ | ⟨-, eq⟩ := armUnit_cases s.sup.cfg.units[k] s.wch.units[k]
      all_goals rw [eq]
      · rw [was]
        exact iff_of_false nofun nofun
    · rfl

theorem zoneMask_congr_fired (fired : ∀ k : Fin 8, t.wch.units[k].status = .fired ↔ s.wch.units[k].status = .fired)
    (cfg : t.sup.cfg = s.sup.cfg) : zoneMask t = zoneMask s := by
  have marks (z : Fin 4) : marksZone t z = marksZone s z := by
    funext k
    simp only [marksZone, isFired, fired, cfg]
  simp only [zoneMask, marks]

theorem unitMask_congr_fired (fired : ∀ k : Fin 8, t.wch.units[k].status = .fired ↔ s.wch.units[k].status = .fired) :
    unitMask t = unitMask s := by
  simp only [unitMask, isFired, fired]

/-- The DRIP of a firing carries the masks that the firing leaves. -/
theorem fireUnit_masks (u : Fin 8) (s : State) :
    zoneMask (fireUnit u s) = zoneMask (markFired u s) ∧ unitMask (fireUnit u s) = unitMask (markFired u s) :=
  ⟨zoneMask_congr_fired (fun k => fired_fireUnit u k s) (by simp), unitMask_congr_fired fun k => fired_fireUnit u k s⟩

/-! ## The actions (R12, R120 to R123) -/

theorem fireUnit_silent (action : s.sup.cfg.units[u].action = .note ∨ s.sup.cfg.units[u].action = .chain) :
    fireUnit u s = { markFired u s with wch := (fireUnit u s).wch } := by
  have ran : runAction u (markFired u s) = markFired u s := by
    unfold runAction
    rw [markFired_cfg]
    obtain note | chain := action
    · rw [note]
    · rw [chain]
  rw [fireUnit_eq, ran]

theorem fireUnit_freeze (action : s.sup.cfg.units[u].action = .freeze) :
    fireUnit u s = { requestFreeze .freezeUnit (some u) (markFired u s) with wch := (fireUnit u s).wch } := by
  have ran : runAction u (markFired u s) = requestFreeze .freezeUnit (some u) (markFired u s) := by
    unfold runAction
    rw [markFired_cfg, action]
  rw [fireUnit_eq, ran]

theorem fireUnit_alert (action : s.sup.cfg.units[u].action = .alert) :
    fireUnit u s =
      { (if isSending s.sup.mode then queueDrip .alert (markFired u s) else markFired u s) with wch := (fireUnit u s).wch } := by
  have ran : runAction u (markFired u s) = if isSending s.sup.mode then queueDrip .alert (markFired u s) else markFired u s := by
    unfold runAction
    rw [markFired_cfg, action]
    rfl
  rw [fireUnit_eq, ran]

theorem fireUnit_isolate (action : s.sup.cfg.units[u].action = .isolate) :
    fireUnit u s = { isolateAction (requestFreeze .isolate (some u) (markFired u s)) with wch := (fireUnit u s).wch } := by
  have ran : runAction u (markFired u s) = isolateAction (requestFreeze .isolate (some u) (markFired u s)) := by
    unfold runAction
    rw [markFired_cfg, action]
  rw [fireUnit_eq, ran]

theorem requestFreeze_froze (r : FreezeReason) (u : Option (Fin 8)) (s : State) : (requestFreeze r u s).cap.frozen = true := by
  rw [requestFreeze_cap]
  split
  · assumption
  · rfl

/-- The capture after a firing that freezes it. -/
def frozenByFiring (r : FreezeReason) (u : Fin 8) (s : State) : Capture :=
  if s.cap.frozen then s.cap
  else
    { appendRecord { time := s.clk.ms, body := .event (.unitFired u) } s.cap with
      frozen := true, reason := r, unit := some u, time := some s.clk.ms }

/-- The queue after a firing that queues its DRIP. -/
def queueAfterFiring (sev : Severity) (u : Fin 8) (s : State) : List EventFrame :=
  enqueueFrame (.drip (ownSegment s) sev (zoneMask (fireUnit u s)) (unitMask (fireUnit u s))) s.lnk.queue

theorem appendRecord_frozen_eq (r : Record) (c : Capture) : (appendRecord r c).frozen = c.frozen := by
  cases frozen : c.frozen
  · simp [appendRecord, frozen]
  · rw [appendRecord_frozen r c frozen, frozen]

theorem frozenFiring_eq (r : FreezeReason) (u : Fin 8) (s : State) :
    requestFreeze r (some u) (markFired u s) =
      { s with wch := (markFired u s).wch, cap := frozenByFiring r u s, sup := { s.sup with watchFired := true } } := by
  rw [requestFreeze_eq, markFired_eq]
  dsimp only
  rw [appendRecord_frozen_eq, frozenByFiring]
  cases frozen : s.cap.frozen
  · rfl
  · simp [appendRecord_frozen _ _ frozen]

theorem queueDrip_markFired (sev : Severity) (u : Fin 8) (s : State) :
    enqueueFrame (.drip (ownSegment s) sev (zoneMask (markFired u s)) (unitMask (markFired u s))) s.lnk.queue =
      queueAfterFiring sev u s := by
  obtain ⟨zones, units⟩ := fireUnit_masks u s
  rw [queueAfterFiring, zones, units]

theorem queueDrip_eq (v : Severity) (s : State) :
    queueDrip v s =
      { s with lnk := { s.lnk with queue := enqueueFrame (.drip (ownSegment s) v (zoneMask s) (unitMask s)) s.lnk.queue } } := rfl

theorem fireUnit_alert_eq (action : s.sup.cfg.units[u].action = .alert) :
    fireUnit u s =
      { s with
        wch := (fireUnit u s).wch
        cap := appendRecord { time := s.clk.ms, body := .event (.unitFired u) } s.cap
        sup := { s.sup with watchFired := true }
        lnk := { s.lnk with queue := if isSending s.sup.mode then queueAfterFiring .alert u s else s.lnk.queue } } := by
  rw [fireUnit_alert action, queueDrip_eq, markFired_lnk, show ownSegment (markFired u s) = ownSegment s from rfl, queueDrip_markFired]
  by_cases sending : isSending s.sup.mode = true
  · rw [if_pos sending, if_pos sending, markFired_eq]
  · rw [if_neg sending, if_neg sending, markFired_eq]

/-- ACTIVE and CONTAINED are left for ISOLATED, and so is JOINING, its timer stopped and its check ended (R12, R122); the capture is
frozen already. -/
theorem isolateAction_entry (frozen : s.cap.frozen = true)
    (entry : s.sup.mode = .active ∨ s.sup.mode = .contained ∨ s.sup.mode = .joining) :
    isolateAction s =
      { s with
        vlv := (closeRequest s).vlv
        dsu := { s.dsu with scanTimer := some (s.dsu.scanTimer.getD (1000 * s.sup.cfg.scanPeriod)) }
        sup := { s.sup with
          mode := .isolated
          joinTimer := if s.sup.mode = .joining then none else s.sup.joinTimer
          dryCheck := if s.sup.mode = .joining ∧ s.sup.dryCheck = .pending then .failed else s.sup.dryCheck }
        lnk := { s.lnk with
          queue := enqueueFrame (.drip (ownSegment s) .isolate (zoneMask s) (unitMask s)) s.lnk.queue
          statusPending := true, renewed := s.lnk.renewed || statusInFlight s
          announce := if s.sup.mode = .joining then some (1000 * s.sup.cfg.pAnn) else s.lnk.announce } } := by
  unfold isolateAction
  obtain active | contained | joining := entry
  · rw [active]
    dsimp only
    rw [enterIsolated_frozen frozen, active]
    rfl
  · rw [contained]
    dsimp only
    rw [enterIsolated_frozen frozen, contained]
    rfl
  · have shut : closeRequest (failJoin s) = { s with sup := (failJoin s).sup, vlv := (closeRequest s).vlv } := by
      have vlv : (closeRequest (failJoin s)).vlv = (closeRequest s).vlv := closeRequest_vlv_congr rfl rfl
      rw [closeRequest_frozen (s := failJoin s) frozen, vlv]
      rfl
    rw [joining]
    dsimp only
    rw [enterIsolated_frozen (s := failJoin s) frozen, shut]
    simp only [failJoin, State.mapSup, joining, true_and, if_true]
    rfl

theorem closeRequest_frozenFiring (r : FreezeReason) (u : Fin 8) (s : State) :
    (closeRequest (requestFreeze r (some u) (markFired u s))).vlv = (closeRequest s).vlv := closeRequest_vlv_congr rfl rfl

theorem zoneMask_requestFreeze (r : FreezeReason) (u : Option (Fin 8)) (s : State) : zoneMask (requestFreeze r u s) = zoneMask s :=
  zoneMask_congr rfl rfl

theorem unitMask_requestFreeze (r : FreezeReason) (u : Option (Fin 8)) (s : State) : unitMask (requestFreeze r u s) = unitMask s :=
  unitMask_congr rfl

theorem fireUnit_isolate_entry (action : s.sup.cfg.units[u].action = .isolate)
    (entry : s.sup.mode = .active ∨ s.sup.mode = .contained ∨ s.sup.mode = .joining) :
    fireUnit u s =
      { s with
        wch := (fireUnit u s).wch, cap := frozenByFiring .isolate u s, vlv := (closeRequest s).vlv
        dsu := { s.dsu with scanTimer := some (s.dsu.scanTimer.getD (1000 * s.sup.cfg.scanPeriod)) }
        sup := { s.sup with
          watchFired := true, mode := .isolated
          joinTimer := if s.sup.mode = .joining then none else s.sup.joinTimer
          dryCheck := if s.sup.mode = .joining ∧ s.sup.dryCheck = .pending then .failed else s.sup.dryCheck }
        lnk := { s.lnk with
          queue := queueAfterFiring .isolate u s, statusPending := true, renewed := s.lnk.renewed || statusInFlight s
          announce := if s.sup.mode = .joining then some (1000 * s.sup.cfg.pAnn) else s.lnk.announce } } := by
  have acted := isolateAction_entry (requestFreeze_froze .isolate (some u) (markFired u s)) entry
  rw [closeRequest_frozenFiring, zoneMask_requestFreeze, unitMask_requestFreeze, requestFreeze_lnk, markFired_lnk, show ownSegment (requestFreeze .isolate (some u) (markFired u s)) = ownSegment s from rfl,
    show statusInFlight (requestFreeze .isolate (some u) (markFired u s)) = statusInFlight s from rfl, queueDrip_markFired,
    frozenFiring_eq] at acted
  dsimp only at acted
  rw [fireUnit_isolate action, frozenFiring_eq, acted]

theorem fireUnit_isolate_again (action : s.sup.cfg.units[u].action = .isolate) (isolated : s.sup.mode = .isolated) :
    fireUnit u s =
      { s with
        wch := (fireUnit u s).wch, cap := frozenByFiring .isolate u s, vlv := (closeRequest s).vlv
        sup := { s.sup with watchFired := true }
        lnk := { s.lnk with queue := queueAfterFiring .isolate u s } } := by
  have acted : isolateAction (requestFreeze .isolate (some u) (markFired u s)) =
      queueDrip .isolate (closeRequest (requestFreeze .isolate (some u) (markFired u s))) := by
    rw [isolateAction, show (requestFreeze .isolate (some u) (markFired u s)).sup.mode = .isolated from isolated]
  have zones := zoneMask_congr (s := markFired u s) (t := closeRequest (requestFreeze .isolate (some u) (markFired u s)))
    (by simp) (by simp)
  have units := unitMask_congr (s := markFired u s) (t := closeRequest (requestFreeze .isolate (some u) (markFired u s))) (by simp)
  rw [queueDrip_eq, zones, units, closeRequest_lnk, requestFreeze_lnk, markFired_lnk,
    show ownSegment (closeRequest (requestFreeze .isolate (some u) (markFired u s))) = ownSegment s by simp [ownSegment],
    queueDrip_markFired, closeRequest_frozen (requestFreeze_froze _ _ _), closeRequest_frozenFiring,
    frozenFiring_eq] at acted
  rw [fireUnit_isolate action, frozenFiring_eq, acted]

theorem fireUnit_isolate_conflict (action : s.sup.cfg.units[u].action = .isolate) (conflict : s.sup.mode = .conflict) :
    fireUnit u s =
      { s with
        wch := (fireUnit u s).wch, cap := frozenByFiring .isolate u s, vlv := (closeRequest s).vlv
        sup := { s.sup with watchFired := true } } := by
  have acted : isolateAction (requestFreeze .isolate (some u) (markFired u s)) =
      closeRequest (requestFreeze .isolate (some u) (markFired u s)) := by
    rw [isolateAction, show (requestFreeze .isolate (some u) (markFired u s)).sup.mode = .conflict from conflict]
  rw [closeRequest_frozen (requestFreeze_froze _ _ _), closeRequest_frozenFiring, frozenFiring_eq] at acted
  rw [fireUnit_isolate action, frozenFiring_eq, acted]

/-! ## One unit and a sample -/

/-- The unit with the sample's value noted. -/
def noteSample (u : Fin 8) (v : Int) (s : State) : State := mapUnit u (fun w => { w with last := some v }) s

theorem noteSample_same (u : Fin 8) (v : Int) (s : State) :
    (noteSample u v s).wch.units[u] = { s.wch.units[u] with last := some v } := (mapUnit_units u u _).trans (if_pos rfl)

theorem mapUnit_noteSample (f : WatchUnit → WatchUnit) (u : Fin 8) (v : Int) (s : State) :
    mapUnit u f (noteSample u v s) = mapUnit u (fun w => f { w with last := some v }) s := by
  have set (units : Vector WatchUnit 8) (a b : WatchUnit) : (units.set u a).set u b = units.set u b := Vector.set_set ..
  have same := noteSample_same u v s
  simp only [noteSample, mapUnit, State.mapWch] at same ⊢
  rw [same, set]

theorem leaveFired_eq (u : Fin 8) (s : State) :
    leaveFired u s =
      { mapUnit u (fun w => { w with
            status := if s.sup.cfg.units[u].arming = .always then .armed else .disarmed
            count := 0, clear := 0, window := none }) s with
        cap := appendRecord { time := s.clk.ms, body := .event (.unitCleared u) } s.cap
        sup := { s.sup with watchFired := s.sup.watchFired && anyFired (leaveFired u s) } } := rfl

/-- What an ARMED unit does with a sample that does not make it fire, and how it fires (R110). -/
theorem unitTakesSample_armed (u : Fin 8) (v : Int) (s : State) :
    let c := s.sup.cfg.units[u]
    let w := s.wch.units[u]
    (qualifies c v = true → w.count + 1 < c.countN →
      unitTakesSample .armed u v s = mapUnit u (fun w => { w with last := some v, count := w.count + 1 }) s) ∧
    (qualifies c v = false → c.countMode = .consecutive →
      unitTakesSample .armed u v s = mapUnit u (fun w => { w with last := some v, count := 0 }) s) ∧
    (qualifies c v = false → c.countMode = .cumulative → unitTakesSample .armed u v s = noteSample u v s) ∧
    (qualifies c v = true → c.countN ≤ w.count + 1 → unitTakesSample .armed u v s = fireUnit u (noteSample u v s)) := by
  intro c w
  have taken : unitTakesSample .armed u v s = countSample u v (noteSample u v s) := rfl
  have count : (noteSample u v s).wch.units[u].count = w.count := by rw [noteSample_same]
  have cfg : (noteSample u v s).sup.cfg = s.sup.cfg := rfl
  have cases := countSample_cases u v (noteSample u v s)
  rw [count, cfg, ← taken, mapUnit_noteSample, mapUnit_noteSample] at cases
  obtain ⟨meets, full, eq⟩ | ⟨meets, below, eq⟩ | ⟨misses, mode, eq⟩ | ⟨misses, mode, eq⟩ := cases
  · exact ⟨fun _ below => absurd full (Nat.not_le.2 below), fun misses => absurd (meets.symm.trans misses) nofun,
      fun misses => absurd (meets.symm.trans misses) nofun, fun _ _ => eq⟩
  · exact ⟨fun _ _ => eq, fun misses => absurd (meets.symm.trans misses) nofun,
      fun misses => absurd (meets.symm.trans misses) nofun, fun _ full => absurd full below⟩
  · exact ⟨fun meets => absurd (meets.symm.trans misses) nofun, fun _ _ => eq, fun _ other => absurd (mode.symm.trans other) nofun,
      fun meets => absurd (meets.symm.trans misses) nofun⟩
  · exact ⟨fun meets => absurd (meets.symm.trans misses) nofun, fun _ other => absurd (mode.symm.trans other) nofun, fun _ _ => eq,
      fun meets => absurd (meets.symm.trans misses) nofun⟩

/-- What a FIRED unit does with a sample (R117, R118). -/
theorem unitTakesSample_fired (u : Fin 8) (v : Int) (s : State) :
    let c := s.sup.cfg.units[u]
    let w := s.wch.units[u]
    (c.latch = .latched → unitTakesSample .fired u v s = noteSample u v s) ∧
    (c.latch = .selfClear → qualifies c v = true →
      unitTakesSample .fired u v s = mapUnit u (fun w => { w with last := some v, clear := 0 }) s) ∧
    (c.latch = .selfClear → qualifies c v = false → w.clear + 1 < c.clearCount →
      unitTakesSample .fired u v s = mapUnit u (fun w => { w with last := some v, clear := w.clear + 1 }) s) ∧
    (c.latch = .selfClear → qualifies c v = false → c.clearCount ≤ w.clear + 1 →
      unitTakesSample .fired u v s = leaveFired u (noteSample u v s)) := by
  intro c w
  have taken : unitTakesSample .fired u v s = clearSample u v (noteSample u v s) := rfl
  have clear : (noteSample u v s).wch.units[u].clear = w.clear := by rw [noteSample_same]
  have cfg : (noteSample u v s).sup.cfg = s.sup.cfg := rfl
  have cases := clearSample_cases u v (noteSample u v s)
  rw [clear, cfg, ← taken, mapUnit_noteSample, mapUnit_noteSample] at cases
  obtain ⟨latch, eq⟩ | ⟨latch, meets, eq⟩ | ⟨latch, misses, full, eq⟩ | ⟨latch, misses, below, eq⟩ := cases
  · exact ⟨fun _ => eq, fun other => absurd (latch.symm.trans other) nofun, fun other => absurd (latch.symm.trans other) nofun,
      fun other => absurd (latch.symm.trans other) nofun⟩
  · exact ⟨fun other => absurd (latch.symm.trans other) nofun, fun _ _ => eq, fun _ misses => absurd (meets.symm.trans misses) nofun,
      fun _ misses => absurd (meets.symm.trans misses) nofun⟩
  · exact ⟨fun other => absurd (latch.symm.trans other) nofun, fun _ meets => absurd (meets.symm.trans misses) nofun,
      fun _ _ below => absurd full (Nat.not_le.2 below), fun _ _ _ => eq⟩
  · exact ⟨fun other => absurd (latch.symm.trans other) nofun, fun _ meets => absurd (meets.symm.trans misses) nofun,
      fun _ _ _ => eq, fun _ _ full => absurd full below⟩

/-! ## A sample at every unit of its source -/

/-- A unit that no arming event can change. -/
theorem Rearmed.eq_of_fired {c : UnitConfig} {w w' : WatchUnit} (rearmed : Rearmed c w w') (fired : w.status = .fired) : w' = w := by
  obtain rfl | ⟨-, rfl⟩ := rearmed
  · rfl
  · exact armUnit_fired fired

theorem Rearmed.armed {c : UnitConfig} {w w' : WatchUnit} (rearmed : Rearmed c w w') (armed : w.status = .armed) :
    w'.status = .armed ∧ w'.count = w.count ∧ w'.last = w.last ∧ w'.clear = w.clear := by
  obtain rfl | ⟨-, rfl⟩ := rearmed
  · exact ⟨armed, rfl, rfl, rfl⟩
  · rw [armUnit_armed armed]
    exact ⟨armed, rfl, rfl, rfl⟩

/-- An arming event leaves the last value and the clear count, and fires nothing. -/
theorem Rearmed.kept {c : UnitConfig} {w w' : WatchUnit} (rearmed : Rearmed c w w') :
    w'.last = w.last ∧ w'.clear = w.clear ∧ (w.status ≠ .fired → w'.status ≠ .fired) := by
  obtain rfl | ⟨-, rfl⟩ := rearmed
  · exact ⟨rfl, rfl, id⟩
  · cases was : w.status with
    | disarmed =>
      rw [armUnit_disarmed was]
      exact ⟨rfl, rfl, fun _ => nofun⟩
    | armed =>
      rw [armUnit_armed was]
      exact ⟨rfl, rfl, fun _ => was.symm ▸ nofun⟩
    | fired =>
      rw [armUnit_fired was]
      exact ⟨rfl, rfl, fun fired => absurd rfl fired⟩

theorem sampledUnit_last (c : UnitConfig) (a : UnitStatus) (v : Int) (w : WatchUnit) : (sampledUnit c a v w).last = some v := by
  cases a with
  | disarmed => rfl
  | armed =>
    simp only [sampledUnit, countedUnit]
    split
    · split <;> rfl
    · split <;> rfl
  | fired =>
    simp only [sampledUnit, clearedUnit]
    split
    · rfl
    · split
      · rfl
      · split <;> rfl

theorem delivered_none {src : Source} (arrival : Vector WatchUnit 8) (v : Int) {l : List (Fin 8)}
    (absent : ∀ k ∈ l, s.sup.cfg.units[k].source ≠ src) :
    l.foldl (fun t u => if t.sup.cfg.units[u].source = src then unitTakesSample arrival[u].status u v t else t) s = s := by
  induction l with
  | nil => rfl
  | cons k l ih =>
    rw [List.foldl_cons, if_neg (absent k List.mem_cons_self)]
    exact ih fun k mem => absent k (List.mem_cons_of_mem _ mem)

/-- One unit alone of the source takes the sample. -/
theorem deliverSample_single {src : Source} (alone : ∀ k : Fin 8, k ≠ u → s.sup.cfg.units[k].source ≠ src)
    (source : s.sup.cfg.units[u].source = src) (evaluating : isEvaluating s.sup.mode = true) (v : Int) :
    deliverSample src v s = unitTakesSample s.wch.units[u].status u v s := by
  obtain ⟨before, behind, all⟩ := List.append_of_mem (mem_allUnits u)
  have fresh : (before ++ u :: behind).Nodup := all ▸ (by decide)
  obtain ⟨-, fresh, apart⟩ := List.nodup_append.1 fresh
  have earlier : ∀ k ∈ before, s.sup.cfg.units[k].source ≠ src := fun k mem => alone k (apart k mem u List.mem_cons_self)
  have later : ∀ k ∈ behind, (unitTakesSample s.wch.units[u].status u v s).sup.cfg.units[k].source ≠ src := by
    intro k mem
    rw [unitTakesSample_cfg]
    exact alone k fun same => (List.nodup_cons.1 fresh).1 (same ▸ mem)
  simp only [deliverSample]
  rw [if_pos evaluating, all, List.foldl_append, delivered_none s.wch.units v earlier, List.foldl_cons, if_pos source,
    delivered_none s.wch.units v later]

/-- What a delivery makes of one unit, by its state at the arrival. -/
theorem deliverSample_unit (evaluating : isEvaluating s.sup.mode = true) (src : Source) (v : Int) (u : Fin 8) :
    let c := s.sup.cfg.units[u]
    let w := s.wch.units[u]
    let w' := (deliverSample src v s).wch.units[u]
    (c.source = src → w'.last = some v) ∧
    (c.source = src → w.status = .armed → qualifies c v = true →
      (c.countN ≤ w.count + 1 → w' = { w with status := .fired, count := c.countN, clear := 0, window := none, last := some v }) ∧
      (w.count + 1 < c.countN → w'.status = .armed ∧ w'.count = w.count + 1)) ∧
    (c.source = src → w.status = .armed → qualifies c v = false →
      w'.status = .armed ∧ w'.count = if c.countMode = .consecutive then 0 else w.count) ∧
    (c.source = src → w.status = .fired → c.latch = .latched → w' = { w with last := some v }) ∧
    (c.source = src → w.status = .disarmed → w'.status ≠ .fired ∧ w'.clear = w.clear) ∧
    (c.source ≠ src → w.status = .fired ∨ c.arming = .always ∨ c.arming = .afterPeerDrip → w' = w) ∧
    (c.source ≠ src → w.status = .armed → w'.status = .armed ∧ w'.count = w.count ∧ w'.last = w.last) := by
  intro c w w'
  obtain ⟨unsampled, sampled⟩ := deliverSample_of_evaluating evaluating src v u
  refine ⟨fun source => ?_, fun source armed meets => ?_, fun source armed misses => ?_, fun source fired latch => ?_,
    fun source disarmed => ?_, fun source still => ?_, fun source armed => ?_⟩
  · obtain ⟨w₁, -, after⟩ := sampled source
    exact after.kept.1.trans (sampledUnit_last _ _ v w₁)
  · obtain ⟨w₁, before, after⟩ := sampled source
    obtain ⟨-, count, -⟩ := before.armed armed
    rw [armed] at after
    simp only [sampledUnit, countedUnit, if_pos (show qualifies s.sup.cfg.units[u] v = true from meets), count] at after
    refine ⟨fun full => ?_, fun below => ?_⟩
    · rw [if_pos full] at after
      exact after.eq_of_fired rfl
    · rw [if_neg (Nat.not_le.2 below)] at after
      obtain ⟨status, counted, -⟩ := after.armed (before.armed armed).1
      exact ⟨status, counted⟩
  · obtain ⟨w₁, before, after⟩ := sampled source
    obtain ⟨still, count, -⟩ := before.armed armed
    rw [armed] at after
    simp only [sampledUnit, countedUnit, if_neg (show ¬qualifies s.sup.cfg.units[u] v = true from Bool.eq_false_iff.1 misses)] at after
    cases mode : c.countMode with
    | consecutive =>
      rw [mode] at after
      obtain ⟨status, counted, -⟩ := after.armed still
      exact ⟨status, counted⟩
    | cumulative =>
      rw [mode] at after
      obtain ⟨status, counted, -⟩ := after.armed still
      exact ⟨status, counted.trans count⟩
  · obtain ⟨w₁, before, after⟩ := sampled source
    obtain rfl := before.eq_of_fired fired
    rw [fired] at after
    simp only [sampledUnit, clearedUnit, show s.sup.cfg.units[u].latch = .latched from latch] at after
    exact after.eq_of_fired fired
  · obtain ⟨w₁, before, after⟩ := sampled source
    obtain ⟨-, clear, calm⟩ := before.kept
    rw [disarmed] at after
    obtain ⟨-, clear', calm'⟩ := after.kept
    have start : w.status ≠ .fired := disarmed ▸ nofun
    exact ⟨calm' (calm start), clear'.trans clear⟩
  · obtain fired | fixed := still
    · exact (unsampled source).eq_of_fired fired
    · obtain same | ⟨⟨k, arming⟩, -⟩ := unsampled source
      · exact same
      · obtain always | drip := fixed
        · exact absurd (arming.symm.trans always) nofun
        · exact absurd (arming.symm.trans drip) nofun
  · obtain ⟨status, count, last, -⟩ := (unsampled source).armed armed
    exact ⟨status, count, last⟩

/-- The whole state after a sample has made a unit fire, by its action. -/
theorem fired_whole (u : Fin 8) (v : Int) (s : State) :
    let t := fireUnit u (noteSample u v s)
    let fired := appendRecord { time := s.clk.ms, body := .event (.unitFired u) } s.cap
    let drip (sev : Severity) : List EventFrame :=
      enqueueFrame (.drip (ownSegment s) sev (zoneMask t) (unitMask t)) s.lnk.queue
    let sup : Supervisor := { s.sup with watchFired := true }
    let action := s.sup.cfg.units[u].action
    (action = .note ∨ action = .chain → t = { s with wch := t.wch, cap := fired, sup := sup }) ∧
    (action = .freeze → t = { s with wch := t.wch, cap := frozenByFiring .freezeUnit u s, sup := sup }) ∧
    (action = .alert →
      t = { s with
        wch := t.wch, cap := fired, sup := sup
        lnk := { s.lnk with queue := if isSending s.sup.mode then drip .alert else s.lnk.queue } }) ∧
    (action = .isolate → s.sup.mode = .active ∨ s.sup.mode = .contained ∨ s.sup.mode = .joining →
      t = { s with
        wch := t.wch, cap := frozenByFiring .isolate u s, vlv := (closeRequest s).vlv
        dsu := { s.dsu with scanTimer := some (s.dsu.scanTimer.getD (1000 * s.sup.cfg.scanPeriod)) }
        sup := { sup with
          mode := .isolated
          joinTimer := if s.sup.mode = .joining then none else s.sup.joinTimer
          dryCheck := if s.sup.mode = .joining ∧ s.sup.dryCheck = .pending then .failed else s.sup.dryCheck }
        lnk := { s.lnk with
          queue := drip .isolate, statusPending := true, renewed := s.lnk.renewed || statusInFlight s
          announce := if s.sup.mode = .joining then some (1000 * s.sup.cfg.pAnn) else s.lnk.announce } }) ∧
    (action = .isolate → s.sup.mode = .isolated →
      t = { s with
        wch := t.wch, cap := frozenByFiring .isolate u s, vlv := (closeRequest s).vlv, sup := sup
        lnk := { s.lnk with queue := drip .isolate } }) ∧
    (action = .isolate → s.sup.mode = .conflict →
      t = { s with wch := t.wch, cap := frozenByFiring .isolate u s, vlv := (closeRequest s).vlv, sup := sup }) := by
  have shut : (closeRequest (noteSample u v s)).vlv = (closeRequest s).vlv := closeRequest_vlv_congr rfl rfl
  intro t fired drip sup action
  refine ⟨fun action => ?_, fun action => ?_, fun action => ?_, fun action entry => ?_, fun action isolated => ?_,
    fun action conflict => ?_⟩
  · have whole := fireUnit_silent (s := noteSample u v s) action
    rw [markFired_eq] at whole
    exact whole
  · have whole := fireUnit_freeze (s := noteSample u v s) action
    rw [frozenFiring_eq] at whole
    exact whole
  · exact fireUnit_alert_eq (s := noteSample u v s) action
  · have whole := fireUnit_isolate_entry (s := noteSample u v s) action entry
    rw [shut] at whole
    exact whole
  · have whole := fireUnit_isolate_again (s := noteSample u v s) action isolated
    rw [shut] at whole
    exact whole
  · have whole := fireUnit_isolate_conflict (s := noteSample u v s) action conflict
    rw [shut] at whole
    exact whole

/-- Settles O40: one unit by its state, a firing by its action, and the delivery unit by unit. -/
theorem unitTakesSamplesByItsStateAndItsWindowDisarmsIt : Obligations.UnitTakesSamplesByItsStateAndItsWindowDisarmsIt := by
  unfold Obligations.UnitTakesSamplesByItsStateAndItsWindowDisarmsIt
  refine ⟨fun s u v => ?_, fun s src v => ?_, fun s u n armed runs => ?_⟩
  · obtain ⟨counts, restarts, stays, fires⟩ := unitTakesSample_armed u v s
    obtain ⟨latched, holds, clears, leaves⟩ := unitTakesSample_fired u v s
    refine ⟨rfl, counts, restarts, stays, fun meets full => ?_, latched, holds, clears, fun latch misses full => ?_⟩
    · intro t fired frozen drip sup
      obtain ⟨silent, freezes, alerts, enters, again, shuts⟩ := fired_whole u v s
      rw [← fires meets full] at silent freezes alerts enters again shuts
      refine ⟨?_, fun k other => ?_, silent, freezes, alerts, fun action => ⟨fun mode => ?_, fun joining => ?_, again action, shuts action⟩⟩
      · have taken := unitTakesSample_same (s := s) .armed u v
        simp only [sampledUnit, countedUnit, if_pos (show qualifies s.sup.cfg.units[u] v = true from meets)] at taken
        exact taken.trans (if_pos full)
      · have unit : t.wch.units[k] =
            if s.sup.cfg.units[k].arming = .afterUnit u then armUnit s.sup.cfg.units[k] s.wch.units[k] else s.wch.units[k] := by
          simp only [t]
          rw [fires meets full, fireUnit_units, firedUnit, if_neg other, noteSample, mapUnit_units, if_neg other, mapUnit_sup]
        refine ⟨fun stays => unit.trans ?_, fun arms disarmed => unit.trans ?_, fun arms armed => unit.trans ?_⟩
        · obtain apart | fired := stays
          · exact if_neg apart
          · rw [armUnit_fired fired, ite_self]
        · rw [if_pos arms, armUnit_disarmed disarmed]
        · rw [if_pos arms, armUnit_armed armed]
      · have whole := enters action (mode.imp_right .inl)
        have other : s.sup.mode ≠ .joining := by
          rintro joining
          simp [joining] at mode
        simp only [other, false_and, if_false] at whole
        exact whole
      · have whole := enters action (.inr (.inr joining))
        simp only [joining, true_and, if_true] at whole
        exact whole
    · intro t
      have left := leaveFired_eq u (noteSample u v s)
      rw [← leaves latch misses full, mapUnit_noteSample] at left
      exact left
  · intro t
    exact ⟨fun off => deliverSample_of_not_evaluating off src v, fun u alone source evaluating =>
      deliverSample_single alone source evaluating v, fun u evaluating => deliverSample_unit evaluating src v u⟩
  · refine ⟨fun awake => congrArg Host.Outcome.next (if_pos ⟨armed, ?_, awake⟩), fun parked =>
      congrArg Host.Outcome.next (if_neg fun running => running.2.2 parked)⟩
    rw [runs]
    rfl

end Sys2Proof.Machine
end

section
/-! PROOF. The end of a good scan in a waiting join: the last reading, and the resolution of the dry check (R9, R12, R83, R124): O33. -/

namespace Sys2Proof.Machine

open Safety

variable {s t : State} {u k : Fin 8} {v : Int}

/-! ## A firing on the last reading ends the join -/

/-- A sample at a unit either makes it fire, or brings none into FIRED and leaves the supervisor but for WATCH_FIRED. -/
theorem unitTakesSample_cases (a : UnitStatus) (u : Fin 8) (v : Int) (s : State) :
    unitTakesSample a u v s = fireUnit u (noteSample u v s) ∨
      (∃ b, (unitTakesSample a u v s).sup = { s.sup with watchFired := b }) ∧
        ∀ k : Fin 8, (unitTakesSample a u v s).wch.units[k].status = .fired → s.wch.units[k].status = .fired := by
  have calm {f : WatchUnit → WatchUnit} {t : State} (eq : t = mapUnit u f (noteSample u v s))
      (still : ∀ w, (f w).status = w.status) :
      (∃ b, t.sup = { s.sup with watchFired := b }) ∧ ∀ k : Fin 8, t.wch.units[k].status = .fired → s.wch.units[k].status = .fired := by
    subst eq
    refine ⟨⟨_, rfl⟩, fun k fired => ?_⟩
    rw [mapUnit_units, noteSample, mapUnit_units] at fired
    split at fired
    · rwa [still] at fired
    · exact fired
  have same {t : State} (eq : t = noteSample u v s) :
      (∃ b, t.sup = { s.sup with watchFired := b }) ∧ ∀ k : Fin 8, t.wch.units[k].status = .fired → s.wch.units[k].status = .fired := by
    subst eq
    refine ⟨⟨_, rfl⟩, fun k fired => ?_⟩
    rw [noteSample, mapUnit_units] at fired
    split at fired <;> exact fired
  cases a with
  | disarmed => exact .inr (same rfl)
  | armed =>
    obtain ⟨-, -, eq⟩ | ⟨-, -, eq⟩ | ⟨-, -, eq⟩ | ⟨-, -, eq⟩ := countSample_cases u v (noteSample u v s)
    · exact .inl eq
    · exact .inr (calm eq fun _ => rfl)
    · exact .inr (calm eq fun _ => rfl)
    · exact .inr (same eq)
  | fired =>
    obtain ⟨-, eq⟩ | ⟨-, -, eq⟩ | ⟨-, -, -, eq⟩ | ⟨-, -, -, eq⟩ := clearSample_cases u v (noteSample u v s)
    · exact .inr (same eq)
    · exact .inr (calm eq fun _ => rfl)
    · have left : unitTakesSample .fired u v s = leaveFired u (noteSample u v s) := eq
      rw [left]
      refine .inr ⟨⟨_, rfl⟩, fun k fired => ?_⟩
      rw [leaveFired_units, noteSample, mapUnit_units] at fired
      split at fired
      · dsimp only at fired
        split at fired <;> cases fired
      · exact fired
    · exact .inr (calm eq fun _ => rfl)

/-- During the delivery of a reading to a waiting join: the join still waits and no further ISOLATE unit is FIRED, or an isolation has
ended it. -/
def JoinOpen (s t : State) : Prop :=
  t.sup.cfg = s.sup.cfg ∧
    (t.sup.mode = .joining ∧ t.sup.dryCheck = .pending ∧
        (∀ k : Fin 8, s.sup.cfg.units[k].action = .isolate → t.wch.units[k].status = .fired → s.wch.units[k].status = .fired) ∨
      t.sup.mode = .isolated ∧ t.sup.dryCheck = .failed ∧ t.sup.joinTimer = none)

/-- What leaves the supervisor but for WATCH_FIRED and fires no ISOLATE unit keeps the join open, or ended. -/
theorem JoinOpen.of_calm {x y : State} (holds : JoinOpen s x) (sup : ∃ b, y.sup = { x.sup with watchFired := b })
    (fired : ∀ k : Fin 8, s.sup.cfg.units[k].action = .isolate → y.wch.units[k].status = .fired → x.wch.units[k].status = .fired) :
    JoinOpen s y := by
  obtain ⟨b, sup⟩ := sup
  unfold JoinOpen
  rw [sup]
  exact ⟨holds.1, holds.2.imp_left fun ⟨joining, pending, calm⟩ => ⟨joining, pending, fun k isolate now =>
    calm k isolate (fired k isolate now)⟩⟩

/-- A firing that does not isolate leaves the supervisor but for WATCH_FIRED. -/
theorem fireUnit_sup_of_calm (calm : s.sup.cfg.units[u].action ≠ .isolate) : (fireUnit u s).sup = { s.sup with watchFired := true } := by
  cases action : s.sup.cfg.units[u].action with
  | isolate => exact absurd action calm
  | note => rw [fireUnit_silent (.inl action)]; rfl
  | chain => rw [fireUnit_silent (.inr action)]; rfl
  | alert => rw [fireUnit_alert_eq action]
  | freeze => rw [fireUnit_freeze action]; rfl

theorem joinOpen_fireUnit {x : State} (holds : JoinOpen s x) : JoinOpen s (fireUnit u x) := by
  obtain ⟨cfg, state⟩ := holds
  by_cases isolate : x.sup.cfg.units[u].action = .isolate
  · refine ⟨(fireUnit_cfg x u).trans cfg, .inr ?_⟩
    obtain ⟨joining, pending, -⟩ | ⟨isolated, failed, stopped⟩ := state
    · rw [fireUnit_isolate_entry isolate (.inr (.inr joining))]
      simp [joining, pending]
    · rw [fireUnit_isolate_again isolate isolated]
      exact ⟨isolated, failed, stopped⟩
  · refine JoinOpen.of_calm ⟨cfg, state⟩ ⟨true, fireUnit_sup_of_calm isolate⟩ fun k isolates fired => ?_
    rw [fired_fireUnit, markFired_units] at fired
    split at fired
    case isTrue same =>
      rw [cfg, ← same] at isolate
      exact absurd isolates isolate
    · exact fired

theorem joinOpen_deliverSample {x : State} (src : Source) (v : Int) (holds : JoinOpen s x) : JoinOpen s (deliverSample src v x) := by
  simp only [deliverSample]
  split
  · refine foldl_induct (fun y u holds => ?_) allUnits holds
    split
    · obtain fires | ⟨sup, fired⟩ := unitTakesSample_cases x.wch.units[u].status u v y
      · rw [fires]
        exact joinOpen_fireUnit (holds.of_calm ⟨_, rfl⟩ fun k _ fired => by
          rw [noteSample, mapUnit_units] at fired
          split at fired <;> exact fired)
      · exact holds.of_calm sup fun k _ => fired k
    · exact holds
  · exact holds

/-- An ISOLATE unit that fires on a reading ends the waiting join (R12, R122). -/
theorem isolated_of_reading (r : ZoneReading) (joining : s.sup.mode = .joining) (pending : s.sup.dryCheck = .pending)
    (isolate : s.sup.cfg.units[u].action = .isolate) (before : isFired s u = false) (fired : isFired (deliverReading r s) u = true) :
    (deliverReading r s).sup.mode = .isolated ∧ (deliverReading r s).sup.dryCheck = .failed ∧
      (deliverReading r s).sup.joinTimer = none := by
  have start : JoinOpen s (handRecord (.zone r.zone r.index r.state r.scan)
      (s.mapDsu fun d => { d with latest := d.latest.set r.zone (some r) })) :=
    ⟨rfl, .inl ⟨joining, pending, fun _ _ fired => fired⟩⟩
  obtain ⟨-, ⟨-, -, calm⟩ | ended⟩ := joinOpen_deliverSample (.zone r.zone) r.index start
  · have was := calm u isolate (of_decide_eq_true fired)
    exact absurd was (of_decide_eq_false before)
  · exact ended

/-! ## What the dry check asks of a unit -/

theorem isFiredIsolate_iff :
    isFiredIsolate s u = true ↔ s.wch.units[u].status = .fired ∧ s.sup.cfg.units[u].action = .isolate := by
  simp [isFiredIsolate, isFired]

theorem scanReading_eq_some {z : Fin 4} {r : ZoneReading} :
    scanReading s z = some r ↔
      s.dsu.latest[z] = some r ∧ (s.sup.cfg.startZone.val ≤ z.val ∧ z.val ≤ s.sup.cfg.endZone.val ∧ r.scan = s.dsu.scanNumber) := by
  unfold scanReading
  cases latest : s.dsu.latest[z] with
  | none => simp
  | some held =>
    dsimp only
    split
    case isTrue this => exact ⟨fun same => Option.some.inj same ▸ ⟨rfl, this⟩, fun same => same.1⟩
    case isFalse this => exact ⟨nofun, fun same => absurd (Option.some.inj same.1 ▸ same.2) this⟩

theorem qualifiesInDryCheck_iff :
    qualifiesInDryCheck s u = true ↔
      s.sup.cfg.units[u].arming = .always ∧ s.sup.cfg.units[u].action = .isolate ∧
        ∃ (z : Fin 4) (r : ZoneReading), s.sup.cfg.units[u].source = .zone z ∧
          s.sup.cfg.startZone.val ≤ z.val ∧ z.val ≤ s.sup.cfg.endZone.val ∧
          s.dsu.latest[z] = some r ∧ r.scan = s.dsu.scanNumber ∧ meetsComparison s.sup.cfg.units[u] r.index = true := by
  simp only [qualifiesInDryCheck, Bool.and_eq_true, decide_eq_true_eq, and_assoc]
  refine and_congr_right fun _ => and_congr_right fun _ => ?_
  cases source : s.sup.cfg.units[u].source with
  | zone z =>
    dsimp only
    cases reading : scanReading s z with
    | none =>
      refine iff_of_false nofun ?_
      rintro ⟨_, r, same, low, high, latest, scan, -⟩
      cases same
      exact absurd (reading.symm.trans (scanReading_eq_some.2 ⟨latest, low, high, scan⟩)) nofun
    | some r =>
      obtain ⟨latest, low, high, scan⟩ := scanReading_eq_some.1 reading
      refine ⟨fun meets => ⟨z, r, rfl, low, high, latest, scan, meets⟩, ?_⟩
      rintro ⟨_, r', same, -, -, latest', -, meets⟩
      cases same
      obtain rfl := Option.some.inj (latest.symm.trans latest')
      exact meets
  | _ =>
    refine iff_of_false nofun ?_
    rintro ⟨_, _, same, -⟩
    cases same

/-! ## The firings of the dry check (R124) -/

/-- One firing of the dry check, of a unit not FIRED yet. -/
theorem dryCheckFiring_cases (u : Fin 8) (s : State) :
    s.wch.units[u].status = .fired ∧ (if isFired s u then s else fireInDryCheck u s) = s ∨
      s.wch.units[u].status ≠ .fired ∧ (if isFired s u then s else fireInDryCheck u s) = fireInDryCheck u s := by
  cases fired : isFired s u
  · exact .inr ⟨of_decide_eq_false fired, rfl⟩
  · exact .inl ⟨of_decide_eq_true fired, rfl⟩

theorem fired_fireDryCheckUnits (units : List (Fin 8)) (fired : s.wch.units[k].status = .fired) :
    (fireDryCheckUnits units s).wch.units[k].status = .fired := by
  refine foldl_induct (P := fun t => t.wch.units[k].status = .fired) (fun t u fired => ?_) units fired
  obtain ⟨-, eq⟩ | ⟨-, eq⟩ := dryCheckFiring_cases u t
  · rwa [eq]
  · rw [eq, fireInDryCheck_units, firedUnit]
    split
    · rfl
    · rwa [armUnit_fired fired, ite_self]

/-- A unit that was not FIRED and is so afterwards has its counter at N. -/
theorem count_fireDryCheckUnits (units : List (Fin 8)) (before : s.wch.units[k].status ≠ .fired)
    (fired : (fireDryCheckUnits units s).wch.units[k].status = .fired) :
    (fireDryCheckUnits units s).wch.units[k].count = s.sup.cfg.units[k].countN := by
  refine (foldl_induct (P := fun t => t.sup.cfg = s.sup.cfg ∧
    (t.wch.units[k].status = .fired → t.wch.units[k].count = s.sup.cfg.units[k].countN)) (fun t u holds => ?_) units
    ⟨rfl, fun fired => absurd fired before⟩).2 fired
  obtain ⟨cfg, full⟩ := holds
  obtain ⟨-, eq⟩ | ⟨-, eq⟩ := dryCheckFiring_cases u t
  · rw [eq]
    exact ⟨cfg, full⟩
  · rw [eq, fireInDryCheck_units, fireInDryCheck_cfg, firedUnit]
    refine ⟨cfg, fun fired => ?_⟩
    by_cases same : k = u
    · rw [if_pos same, cfg]
    · rw [if_neg same] at fired ⊢
      have was : t.wch.units[k].status = .fired := by
        by_contra other
        split at fired
        · exact (Rearmed.kept (c := t.sup.cfg.units[k]) (.inr ⟨⟨u, ‹_›⟩, rfl⟩)).2.2 other fired
        · exact other fired
      rw [armUnit_fired was, ite_self]
      exact full was

theorem fireDryCheckUnits_append (before behind : List (Fin 8)) (s : State) :
    fireDryCheckUnits (before ++ behind) s = fireDryCheckUnits behind (fireDryCheckUnits before s) := List.foldl_append

theorem fireDryCheckUnits_cons (u : Fin 8) (units : List (Fin 8)) (s : State) :
    fireDryCheckUnits (u :: units) s = fireDryCheckUnits units (if isFired s u then s else fireInDryCheck u s) := rfl

theorem fired_of_mem_fireDryCheckUnits {units : List (Fin 8)} (mem : k ∈ units) :
    (fireDryCheckUnits units s).wch.units[k].status = .fired := by
  obtain ⟨before, behind, rfl⟩ := List.append_of_mem mem
  rw [fireDryCheckUnits_append, fireDryCheckUnits_cons]
  refine fired_fireDryCheckUnits behind ?_
  obtain ⟨fired, eq⟩ | ⟨-, eq⟩ := dryCheckFiring_cases k (fireDryCheckUnits before s)
  · rwa [eq]
  · rw [eq, fireInDryCheck_units, firedUnit, if_pos rfl]

/-- Units FIRED already are passed over. -/
theorem fireDryCheckUnits_of_fired {units : List (Fin 8)} (fired : ∀ k ∈ units, s.wch.units[k].status = .fired) :
    fireDryCheckUnits units s = s := by
  induction units with
  | nil => rfl
  | cons u units ih =>
    obtain ⟨-, eq⟩ | ⟨other, -⟩ := dryCheckFiring_cases u s
    · rw [fireDryCheckUnits_cons, eq]
      exact ih fun k mem => fired k (List.mem_cons_of_mem _ mem)
    · exact absurd (fired u List.mem_cons_self) other

/-- The first unit to fire freezes a running capture, with its own number. -/
theorem frozen_fireInDryCheck (u : Fin 8) (running : s.cap.frozen = false) :
    (fireInDryCheck u s).cap.frozen = true ∧ (fireInDryCheck u s).cap.reason = .isolate ∧ (fireInDryCheck u s).cap.unit = some u ∧
      (fireInDryCheck u s).cap.time = some s.clk.ms := by
  have cap : (fireInDryCheck u s).cap = frozenByFiring .isolate u s := by
    rw [fireInDryCheck, armDependants_eq, frozenFiring_eq]
  rw [cap, frozenByFiring, if_neg (by simp [running])]
  exact ⟨rfl, rfl, rfl, rfl⟩

theorem StaysFrozen.fields (holds : StaysFrozen s t) :
    t.cap.frozen = true ∧ t.cap.reason = s.cap.reason ∧ t.cap.unit = s.cap.unit ∧ t.cap.time = s.cap.time := by
  obtain ⟨frozen, same⟩ := holds
  rw [same] at frozen ⊢
  exact ⟨frozen, rfl, rfl, rfl⟩

theorem staysFrozen_self (frozen : s.cap.frozen = true) : StaysFrozen s s := ⟨frozen, rfl⟩

/-- Nothing that follows the first firing changes the frozen capture. -/
theorem staysFrozen_dryCheck (units : List (Fin 8)) (frozen : s.cap.frozen = true) :
    StaysFrozen s (enterIsolated (fireDryCheckUnits units s)) :=
  (staysFrozen_blind s).kept.byModes.enterIsolated ((staysFrozen_blind s).fires _ units (staysFrozen_self frozen))

/-- The first of the qualifying units that fires comes before every other firing. -/
theorem fireDryCheckUnits_first {units : List (Fin 8)} (mem : u ∈ units) (sorted : units.Pairwise (· < ·))
    (calm : s.wch.units[u].status ≠ .fired) (earlier : ∀ k ∈ units, k < u → s.wch.units[k].status = .fired) :
    ∃ behind, fireDryCheckUnits units s = fireDryCheckUnits behind (fireInDryCheck u s) := by
  obtain ⟨before, behind, rfl⟩ := List.append_of_mem mem
  obtain ⟨-, -, apart⟩ := List.pairwise_append.1 sorted
  have passed : fireDryCheckUnits before s = s := fireDryCheckUnits_of_fired fun k mem =>
    earlier k (List.mem_append_left _ mem) (apart k mem u List.mem_cons_self)
  obtain ⟨fired, -⟩ | ⟨-, eq⟩ := dryCheckFiring_cases u s
  · exact absurd fired calm
  · exact ⟨behind, by rw [fireDryCheckUnits_append, passed, fireDryCheckUnits_cons, eq]⟩

theorem frozen_by_first {units : List (Fin 8)} (mem : u ∈ units) (sorted : units.Pairwise (· < ·)) (running : s.cap.frozen = false)
    (calm : s.wch.units[u].status ≠ .fired) (earlier : ∀ k ∈ units, k < u → s.wch.units[k].status = .fired)
    (reached : t = enterIsolated (fireDryCheckUnits units s)) :
    t.cap.frozen = true ∧ t.cap.reason = .isolate ∧ t.cap.unit = some u ∧ t.cap.time = some s.clk.ms := by
  obtain ⟨behind, first⟩ := fireDryCheckUnits_first mem sorted calm earlier
  obtain ⟨frozen, reason, unit, time⟩ := frozen_fireInDryCheck u running
  have stays := staysFrozen_dryCheck behind frozen
  rw [← first, ← reached] at stays
  obtain ⟨still, reason', unit', time'⟩ := stays.fields
  exact ⟨still, reason'.trans reason, unit'.trans unit, time'.trans time⟩

/-! ## The resolution -/

/-- The dry check passes exactly when no unit qualifies and no ISOLATE unit is FIRED (R9). -/
theorem resolveDryCheck_clean (none : ∀ u : Fin 8, qualifiesInDryCheck s u = false) (calm : ∀ u : Fin 8, isFiredIsolate s u = false) :
    resolveDryCheck s = passDryCheck s := by
  have noUnit : allUnits.filter (qualifiesInDryCheck s) = [] := List.filter_eq_nil_iff.2 fun u _ => Bool.eq_false_iff.1 (none u)
  have noFired : allUnits.any (isFiredIsolate s) = false := List.any_eq_false.2 fun u _ => Bool.eq_false_iff.1 (calm u)
  simp [resolveDryCheck, noUnit, noFired]

theorem resolveDryCheck_wet
    (wet : ¬((∀ u : Fin 8, qualifiesInDryCheck s u = false) ∧ ∀ u : Fin 8, isFiredIsolate s u = false)) :
    resolveDryCheck s = enterIsolated (fireDryCheckUnits (allUnits.filter (qualifiesInDryCheck s)) (failDryCheck s)) := by
  refine if_neg fun clean => wet ?_
  rw [Bool.and_eq_true, List.isEmpty_iff, List.filter_eq_nil_iff, Bool.not_eq_true', List.any_eq_false] at clean
  exact ⟨fun u => Bool.eq_false_iff.2 (clean.1 u (mem_allUnits u)), fun u => Bool.eq_false_iff.2 (clean.2 u (mem_allUnits u))⟩

/-- The one DRIP of an entry to ISOLATED carries the masks of the state it leaves. -/
theorem enterIsolated_queue (s : State) :
    (enterIsolated s).lnk.queue =
      enqueueFrame (.drip (ownSegment s) .isolate (zoneMask (enterIsolated s)) (unitMask (enterIsolated s))) s.lnk.queue := by
  have zones := zoneMask_congr (enterIsolated_wch s) (enterIsolated_cfg s)
  have units := unitMask_congr (enterIsolated_wch s)
  have zones' := zoneMask_congr (s := s) (t := closeRequest (changeMode .isolated s)) (by simp) (by simp)
  have units' := unitMask_congr (s := s) (t := closeRequest (changeMode .isolated s)) (by simp)
  rw [zones, units, enterIsolated_eq, queueDrip_eq, zones', units']
  simp [ownSegment, changeMode_lnk, isSending]

/-- Settles O33: the resolution comes after the last reading, which may have ended the join itself; it passes or fails the check. -/
theorem dryCheckResolvesTheJoin : Obligations.DryCheckResolvesTheJoin := by
  unfold Obligations.DryCheckResolvesTheJoin
  refine ⟨fun s z b cycles c r scan counter last ending => ?_, fun s u => ⟨qualifiesInDryCheck_iff, isFiredIsolate_iff⟩,
    fun s joining pending => ?_⟩
  · intro d
    have ends : exec c s = .next (updateAttn (afterSensorPhase z d)) := by
      obtain ⟨rfl, fits, rfl⟩ | ⟨rfl, rfl⟩ := ending
      · exact exec_sensorPhaseEnd scan counter fits
      · exact exec_counterOverflow scan
    have cfg : d.sup.cfg = s.sup.cfg := by simp [d, deliverReading]
    refine ⟨fun joining pending => ends.trans ?_, fun other => ends.trans ?_, fun u joining pending isolate before fired =>
      isolated_of_reading r joining pending isolate before fired⟩
    · simp only [afterSensorPhase, cfg, if_neg (Nat.not_lt.2 last), completeScan, dryCheckWaits_iff.2 ⟨joining, pending⟩, if_true]
    · rw [afterSensorPhase_last (cfg ▸ last) other]
  · intro clean t
    refine ⟨fun dry => ?_, fun wet => ?_⟩
    · have passes : t = passDryCheck s := resolveDryCheck_clean dry.1 dry.2
      let p : State := { s with sup := { s.sup with dryCheck := .passed } }
      have vlv := (openRequest_congr (s := s) (t := p) rfl rfl rfl rfl).1
      have count : isolationCount (openRequest p) = isolationCount s := isolationCount_congr (openRequest_ros p) (by rw [openRequest_sup])
      cases expired : s.sup.joinExpired
      · rw [passes, passDryCheck_early expired, openRequest_sup, openRequest_wch, openRequest_lnk]
        exact ⟨rfl, rfl, vlv, fun _ => ⟨joining, rfl, rfl⟩, nofun⟩
      · have passed : t = goActive (openRequest p) := passes.trans (passDryCheck_expired expired)
        rw [passed, goActive_sup, goActive_wch, goActive_lnk, goActive_vlv, count, openRequest_sup, openRequest_wch]
        exact ⟨rfl, rfl, vlv, nofun, fun _ => ⟨rfl, rfl⟩⟩
    · have fails : t = _ := resolveDryCheck_wet wet
      obtain ⟨b, sup⟩ := fireDryCheckUnits_sup (allUnits.filter (qualifiesInDryCheck s)) (failDryCheck s)
      have mem {u : Fin 8} (qualifies : qualifiesInDryCheck s u = true) : u ∈ allUnits.filter (qualifiesInDryCheck s) :=
        List.mem_filter.2 ⟨mem_allUnits u, qualifies⟩
      have sorted : (allUnits.filter (qualifiesInDryCheck s)).Pairwise (· < ·) := List.Pairwise.filter _ (by decide)
      have tsup : t.sup = { s.sup with dryCheck := .failed, joinTimer := none, mode := .isolated, watchFired := b } := by
        rw [fails, enterIsolated_eq, queueDrip_sup, closeRequest_sup, changeMode_sup, sup]
        rfl
      have units (u : Fin 8) : t.wch.units[u] =
          (fireDryCheckUnits (allUnits.filter (qualifiesInDryCheck s)) (failDryCheck s)).wch.units[u] := by
        rw [fails, enterIsolated_eq, queueDrip_wch, closeRequest_wch, changeMode_wch]
      refine ⟨by rw [tsup], by rw [tsup], by rw [tsup], fun u qualifies => ?_, fun u qualifies calm running earlier => ?_, ?_, ?_⟩
      · have fired := fired_of_mem_fireDryCheckUnits (s := failDryCheck s) (mem qualifies)
        rw [units u]
        exact ⟨fired, fun before => count_fireDryCheckUnits _ (of_decide_eq_false before) fired⟩
      · exact frozen_by_first (s := failDryCheck s) (mem qualifies) sorted running (of_decide_eq_false calm)
          (fun k isIn below => of_decide_eq_true (earlier k below (List.mem_filter.1 isIn).2)) fails
      · rw [fails, enterIsolated_eq, queueDrip_vlv]
        exact closeRequest_vlv_congr (by simp) (by simp)
      · rw [fails, enterIsolated_queue]
        simp [ownSegment]

end Sys2Proof.Machine
end

section
/-! PROOF. The figures of a control step and the analog scan that leads to it (R91 to R98, R128 to R138): O36, O34. -/

namespace Sys2Proof.Machine

open Safety

variable {s t : State}

/-! ## The arithmetic of chapter 8 -/

theorem clampInt_eq {a b : Int} (ordered : a ≤ b) (x : Int) : clampInt x a b = max a (min b x) := by
  unfold clampInt
  split
  · omega
  · split <;> omega

theorem targetDemand_eq {c : ConfigSet} (ordered : c.dmin ≤ c.dmax) (m : MeasurementSet) :
    targetDemand c m =
      match m.returnValid, m.returnTemp with
      | true, some tr => max (c.dmin : Int) (min (c.dmax : Int) (c.dbase + ((c.kd : Int) * (tr - c.tset)).tdiv 10))
      | _, _ => (c.dmax : Int) := by
  unfold targetDemand
  cases m.returnValid with
  | false => rfl
  | true =>
    cases m.returnTemp with
    | none => rfl
    | some tr => exact clampInt_eq (by omega) _

/-- From a demand in range the slew limit leads to one in range, so that Dmin and Dmax hold it no further (R130). -/
theorem slewedDemand_eq {c : ConfigSet} {prev : Nat} {target : Int} (prevInRange : c.dmin ≤ prev ∧ prev ≤ c.dmax)
    (inRange : (c.dmin : Int) ≤ target ∧ target ≤ c.dmax) :
    (slewedDemand c prev target : Int) = max (prev - c.slew : Int) (min (prev + c.slew : Int) target) := by
  rw [slewedDemand, clampInt_eq (by omega), clampInt_eq (by omega)]
  omega

theorem dutyOf_eq {grant : Nat} (granted : grant ≠ 0) (base : Nat) (trim : Int) :
    (dutyOf grant base trim : Int) = max 0 (min 1023 (base + trim)) := by
  rw [dutyOf, if_neg granted, clampInt_eq (by decide)]
  omega

/-- The trim of a step with a grant (R135). -/
theorem trimOf_granted {c : ConfigSet} {grant : Nat} (granted : grant ≠ 0) (valve : ValveState) (m : MeasurementSet) (trim : Int) :
    (valve ≠ .opened ∨ m.known = false → trimOf c grant valve m trim = trim) ∧
    (valve = .opened → m.known = true →
      let err : Int := (grant : Int) - m.flow
      (c.deadband < err → trimOf c grant valve m trim = max (-(c.tmax : Int)) (min (c.tmax : Int) (trim + c.trimStep))) ∧
      (err < -(c.deadband : Int) → trimOf c grant valve m trim = max (-(c.tmax : Int)) (min (c.tmax : Int) (trim - c.trimStep))) ∧
      (-(c.deadband : Int) ≤ err → err ≤ c.deadband → -(c.tmax : Int) ≤ trim → trim ≤ c.tmax →
        trimOf c grant valve m trim = trim)) := by
  unfold trimOf
  rw [if_neg granted]
  refine ⟨fun off => if_neg fun on => ?_, fun opened known => ?_⟩
  · obtain shut | unknown := off
    · exact shut on.1
    · exact absurd (unknown.symm.trans on.2) nofun
  · intro err
    rw [if_pos ⟨opened, known⟩]
    dsimp only
    refine ⟨fun below => ?_, fun above => ?_, fun low high least most => ?_⟩
    · rw [if_pos below]
      exact clampInt_eq (by omega) _
    · rw [if_neg (by omega), if_pos above]
      exact clampInt_eq (by omega) _
    · rw [if_neg (by omega), if_neg (by omega)]
      exact clampInt_of_mem _ _ _ least most

/-! ## The step -/

theorem receiveDuty_eq (duty : Nat) (s : State) :
    receiveDuty duty s =
      { s with
        vlv := { s.vlv with
          pendingDuty := if s.vlv.valve = .opening ∨ s.vlv.valve = .opened then duty else s.vlv.pendingDuty } } := by
  unfold receiveDuty
  cases valve : s.vlv.valve with
  | opening | opened => simp [State.mapVlv, valve]
  | closed | closing | stuck =>
    simp only [reduceCtorEq, or_self, if_false]

theorem processedSet_eq (m : MeasurementSet) (s : State) :
    processedSet m s =
      { s with
        cap := if s.sup.cfg.decimation ≤ s.cap.count + 1 then
            appendRecord { time := s.clk.ms, body := .meas (figuresOf m s.shr) } { s.cap with count := 0 }
          else { s.cap with count := s.cap.count + 1 } } := by
  unfold processedSet
  split <;> rfl

/-- The notice, from what it reads. -/
theorem processedSet_of {m : MeasurementSet} {decimation count : Nat} {ms : BitVec 32} {figures : MeasFigures}
    (reads : s.sup.cfg.decimation = decimation ∧ s.cap.count = count ∧ s.clk.ms = ms ∧ figuresOf m s.shr = figures) :
    processedSet m s =
      { s with
        cap := if decimation ≤ count + 1 then
            appendRecord { time := ms, body := .meas figures } { s.cap with count := 0 }
          else { s.cap with count := count + 1 } } := by
  obtain ⟨rfl, rfl, rfl, rfl⟩ := reads
  exact processedSet_eq m s

/-- The decimation count of the capture history is as in s: no record and no freeze moves it. -/
theorem sameCount_blind (s : State) : KeptBlind fun t => t.cap.count = s.cap.count :=
  KeptBlindCore.toBlind
    { line := fun _ _ _ => id
      ros := fun _ _ _ => id
      dsu := fun _ _ => id
      msu := fun _ _ => id
      svc := fun _ _ => id
      vlv := fun _ _ => id
      shr := fun _ _ => id
      station := fun _ _ _ => id
      mode := fun _ _ _ => id
      record := fun t b same => (appendRecord_keeps { time := t.clk.ms, body := b } t.cap).2.2.2.2.trans same
      freeze := fun t r u _ same => by
        rw [requestFreeze_cap]
        split <;> exact same }
    (fun _ _ => id) fun _ _ => id

theorem deliverSample_count {src : Source} (named : src ≠ .none) (v : Int) : (deliverSample src v s).cap.count = s.cap.count :=
  (sameCount_blind s).sample s src v named rfl

/-- The flow-excess sample leaves what the processed-set notice reads. -/
theorem excess_keeps (p : Prop) [Decidable p] (v : Int) (s : State) :
    let d := if p then deliverSample .flowExcess v s else s
    d.shr = s.shr ∧ d.clk = s.clk ∧ d.sup.cfg = s.sup.cfg ∧ d.cap.count = s.cap.count := by
  intro d
  by_cases taken : p
  · have eq : d = deliverSample .flowExcess v s := if_pos taken
    rw [eq]
    exact ⟨deliverSample_shr .., deliverSample_clk .., deliverSample_cfg .., deliverSample_count (src := .flowExcess) nofun v⟩
  · have eq : d = s := if_neg taken
    rw [eq]
    exact ⟨rfl, rfl, rfl, rfl⟩

theorem controlStep_shr (m : MeasurementSet) (s : State) : (controlStep m s).shr = stepShare m s := by
  simp only [controlStep, processedSet_shr]
  split <;> simp

/-- Settles O36: the figures stage by stage, then the duty, the flow excess and the processed set. -/
theorem controlStepComputesTheFigures : Obligations.ControlStepComputesTheFigures := by
  unfold Obligations.ControlStepComputesTheFigures
  intro s m c target t ordered least most
  have shr : t.shr = stepShare m s := controlStep_shr m s
  have demand : (t.shr.demand : Int) = max (s.shr.demand - c.slew : Int) (min (s.shr.demand + c.slew : Int) target) := by
    rw [shr]
    have held : targetDemand c m = target := targetDemand_eq ordered m
    rw [← held]
    exact slewedDemand_eq ⟨least, most⟩ (targetDemand_inRange ordered m)
  have base : t.shr.baseDuty = baseDutyOf c t.shr.grant := by
    rw [shr]
    rfl
  have trim : t.shr.trim = trimOf c t.shr.grant s.vlv.valve m s.shr.trim := by
    rw [shr]
    rfl
  have duty : t.shr.duty = dutyOf t.shr.grant t.shr.baseDuty t.shr.trim := by
    rw [shr]
    rfl
  refine ⟨demand, ?_, base, fun none => ?_, fun granted => ⟨?_, ?_, ?_⟩, ?_⟩
  · intro sum share
    have grant : t.shr.grant = grantOf c s.sup.mode s.sup.dryCheck share := by
      simp only [share, sum]
      rw [shr]
      rfl
    rw [grant]
    refine ⟨fun mode => ?_, fun mode => ?_, fun mode dry => ?_, fun mode dry => ?_, fun mode => ?_⟩
    all_goals rw [mode]
    · rfl
    · rfl
    · exact if_pos dry
    · exact if_neg (by rw [dry]; nofun)
    · rfl
  · rw [duty, trim, none]
    exact ⟨rfl, rfl⟩
  · rw [trim]
    exact (trimOf_granted granted _ m _).1
  · rw [trim]
    exact (trimOf_granted granted _ m _).2
  · rw [duty]
    exact dutyOf_eq granted _ _
  · intro sent figures d
    have isSent : receiveDuty (stepShare m s).duty (s.mapShr fun _ => stepShare m s) = sent := by
      simp only [sent]
      rw [receiveDuty_eq, shr]
      rfl
    have stepped : t = processedSet m d := by
      simp only [t, controlStep]
      rw [isSent, ← shr]
    obtain ⟨shr', clk, cfg, count⟩ := excess_keeps (s.vlv.valve = .opened ∧ m.known = true) ((m.flow : Int) - t.shr.grant) sent
    exact stepped.trans (processedSet_of ⟨congrArg ConfigSet.decimation cfg, count, congrArg Clock.ms clk, congrArg (figuresOf m) shr'⟩)

/-! ## The delivery of a set -/

/-- An isolation stays among the modes of the control step. -/
theorem sameControl_units (b : Bool) : KeptByUnits fun t => runsControlStep t.sup.mode = b where
  unit _ _ _ _ := id
  marks _ _ := id
  left s u := (congrArg (fun m => runsControlStep m) (leaveFired_mode s u)).trans
  freeze _ _ _ _ := id
  drip _ _ _ := id
  isolate s same := by
    obtain ⟨mode, eq⟩ | ⟨mode, eq⟩ | ⟨mode, eq⟩ | ⟨mode, eq⟩ | ⟨-, eq⟩ := isolateAction_cases s
    all_goals rw [eq]
    · rw [enterIsolated_mode, ← same]
      obtain active | contained := mode
      · rw [active]
        rfl
      · rw [contained]
        rfl
    · rw [enterIsolated_mode, ← same, mode]
      rfl
    · simpa using same
    · simpa using same
    · exact same

theorem deliverSetSamples_control (m : MeasurementSet) (s : State) :
    runsControlStep (deliverSetSamples m s).sup.mode = runsControlStep s.sup.mode := by
  have sample {src : Source} (valid : Bool) (v : Option Int) {t : State} (same : runsControlStep t.sup.mode = runsControlStep s.sup.mode) :
      runsControlStep (deliverIf src valid v t).sup.mode = runsControlStep s.sup.mode := by
    unfold deliverIf
    split
    · exact (sameControl_units _).deliverSample same _ _
    · exact same
    · exact same
  exact sample _ _ (sample _ _ (sample _ _ rfl))

/-- SENSOR_FAULT as it stands. -/
theorem sameFault_moves (b : Bool) : KeptByMoves fun t => t.sup.sensorFault = b :=
  have modes : KeptByModes fun t => t.sup.sensorFault = b :=
    { line := fun _ _ _ => id
      ros := fun _ _ _ => id
      svc := fun _ _ => id
      join := fun s _ keeps => (keeps s.sup).2.2.trans
      mode := fun _ _ _ => id
      record := fun _ _ => id
      freeze := fun _ _ _ _ => id
      opens := fun s => (congrArg Supervisor.sensorFault (openRequest_sup s)).trans
      closes := fun s => (congrArg Supervisor.sensorFault (closeRequest_sup s)).trans
      starts := fun _ _ => id
      triggers := fun _ _ => id }
  { toKeptByModes := modes, toKeptByWatch := modes.byWatch (fun _ _ => id) fun _ _ => id }

/-- What SENSOR_FAULT reads is the same before and after the delivery of a set (R19). -/
theorem sensorFaultNow_deliverSet (m : MeasurementSet) (s : State) : sensorFaultNow (deliverSet m s) = sensorFaultNow s := by
  have flag : SensorFlag (deliverSet m s) := sensorFlag_moves.deliverSet m
    (fun _ _ => SensorFlag.of_same (by simp) (by simp) (by simp) (by simp) (by simp))
    (fun _ _ => SensorFlag.of_same (by simp) (by simp) (by simp) (by simp) (by simp)) sensorFlag_reeval
  have stays : (deliverSet m s).sup.sensorFault = sensorFaultNow s := (sameFault_moves (sensorFaultNow s)).deliverSet m
    (fun _ _ same => by simpa using same) (fun _ _ same => by simpa using same) rfl
  exact flag.symm.trans stays

/-! ## The analog scan -/

theorem takeCode_valid {a : AnalogScale} {code : BitVec 12} (least : 16 ≤ code.toNat) (most : code.toNat ≤ 4079) (ch : Channel) :
    takeCode a code ch = { value := some (a.low + (a.high - a.low) * code.toNat / 4095), valid := true, fault := false } :=
  if_pos (decide_eq_true ⟨least, most⟩)

theorem takeCode_invalid {a : AnalogScale} {code : BitVec 12} (outside : code.toNat < 16 ∨ 4079 < code.toNat) (ch : Channel) :
    takeCode a code ch = { value := ch.value, valid := false, fault := true } :=
  if_neg (mt of_decide_eq_true (by omega))

theorem deltaPOf_valid {a b : Channel} {p q : Int} (first : a.valid = true) (second : b.valid = true) (is : a.value = some p)
    (is' : b.value = some q) : deltaPOf a b = some (max (-32768) (min 32767 (p - q))) := by
  rw [deltaPOf, first, second, is, is']
  exact congrArg some (clampInt_eq (by decide) _)

theorem deltaPOf_invalid {a b : Channel} (invalid : a.valid = false ∨ b.valid = false) : deltaPOf a b = none := by
  have off : (a.valid && b.valid) = false := by
    obtain first | second := invalid
    · rw [first, Bool.false_and]
    · rw [second, Bool.and_false]
  rw [deltaPOf, off]

/-- The state in which a completed scan has applied its codes. -/
def scanApplied (codes : List (BitVec 12)) (s : State) : State := { s with msu := applyCodes s.sup.cfg s.msu codes }

theorem exec_conversionEnd_last {code : BitVec 12} (last : s.msu.adc = .converting 3) :
    exec (.conversionEnd code) s =
      .next (updateAttn
        (deliverSet (measurementSetOf (scanApplied (s.msu.codes ++ [code]) s)) (scanApplied (s.msu.codes ++ [code]) s))) := by
  refine congrArg Host.Outcome.next ?_
  rw [conversionEnd, last]
  rfl

/-- The delivery by the mode at its start. -/
theorem updateAttn_deliverSet (m : MeasurementSet) (s : State) :
    updateAttn (deliverSet m s) =
      { (if runsControlStep s.sup.mode then controlStep m (deliverSetSamples m (reevalSensorFault s))
          else processedSet m (deliverSetSamples m (reevalSensorFault s))) with
        svc := { s.svc with attn := attnNow (updateAttn (deliverSet m s)) } } := by
  have chosen : deliverSet m s = if runsControlStep s.sup.mode then controlStep m (deliverSetSamples m (reevalSensorFault s))
      else processedSet m (deliverSetSamples m (reevalSensorFault s)) := by
    simp only [deliverSet]
    rw [deliverSetSamples_control, reevalSensorFault_mode]
  have svc : (deliverSet m s).svc = s.svc := by simp
  rw [← chosen]
  exact updateAttn_of_svc svc

/-- Settles O34: the conversions, the four codes together, and the delivery of the set. -/
theorem analogScanAppliesItsCodesTogether : Obligations.AnalogScanAppliesItsCodesTogether := by
  unfold Obligations.AnalogScanAppliesItsCodesTogether
  refine ⟨fun s n runs idle => ?_, fun s ch code converting early => ?_, fun s c0 c1 c2 c3 last codes => ?_⟩
  · refine congrArg Host.Outcome.next ?_
    simp only [acquisitionTimerExpiry, runs, State.mapMsu, idle]
    rfl
  · refine congrArg Host.Outcome.next ?_
    simp only [conversionEnd, converting, early, if_true]
    rfl
  · intro code
    let a := scanApplied (s.msu.codes ++ [c3]) s
    let m := measurementSetOf a
    have msu : (updateAttn (deliverSet m a)).msu = applyCodes s.sup.cfg s.msu [c0, c1, c2, c3] := by
      rw [updateAttn_msu, deliverSet_msu]
      simp only [a]
      rw [codes]
      rfl
    have chans (k : Fin 4) : (applyCodes s.sup.cfg s.msu [c0, c1, c2, c3]).chans[k] =
        takeCode s.sup.cfg.analog[k] (code k) s.msu.chans[k] := by
      fin_cases k <;> rfl
    refine ⟨fun _ _ rises bound => scale_inRange rises bound, _, exec_conversionEnd_last last, ?_⟩
    rw [msu]
    refine ⟨rfl, rfl, fun k => ?_, fun p q => ?_, deltaPOf_invalid, rfl, ?_⟩
    · rw [chans]
      exact ⟨fun least most => takeCode_valid least most _, fun outside => takeCode_invalid outside _⟩
    · exact deltaPOf_valid
    · intro sample supply back set applied d
      have taken (src : Source) (valid : Bool) (v : Option Int) (x : State) : sample src valid v x = deliverIf src valid v x := by
        cases valid <;> cases v <;> rfl
      have evaluated : reevalSensorFault a = applied := by
        have fault : sensorFaultNow (updateAttn (deliverSet m a)) = sensorFaultNow a := sensorFaultNow_deliverSet m a
        simp only [applied, m, a] at fault ⊢
        rw [fault, codes]
        rfl
      have same : m = set := by
        simp only [m, a]
        rw [codes]
        rfl
      have delivered : deliverSetSamples m (reevalSensorFault a) = d := by
        rw [evaluated, same]
        simp only [d, taken]
        rfl
      have whole := updateAttn_deliverSet m a
      rw [delivered] at whole
      refine ⟨fun steps => ?_, fun rests => ?_⟩
      · have runs : runsControlStep a.sup.mode = true := by
          show runsControlStep s.sup.mode = true
          obtain mode | mode | mode | mode := steps
          all_goals rw [mode]; rfl
        rw [if_pos runs, show controlStep m d = controlStep set d by rw [same]] at whole
        exact whole
      · have none : ¬runsControlStep a.sup.mode = true := by
          show ¬runsControlStep s.sup.mode = true
          obtain mode | mode := rests
          all_goals rw [mode]; nofun
        rw [if_neg none, show processedSet m d = processedSet set d by rw [same]] at whole
        exact whole

end Sys2Proof.Machine
end

section
/-! PROOF. The requests to the valve drive and its own events (R142 to R153): O41, O42. -/

namespace Sys2Proof.Machine

open Safety

variable {s t : State}

/-! ## The requests -/

theorem startOpening_eq (s : State) :
    startOpening s =
      { s with
        vlv := { s.vlv with
          valve := .opening, pendingDuty := 0, pullIn := some (1000 * s.sup.cfg.pullInTime), returnDrive := .full }
        cap := appendRecord { time := s.clk.ms, body := .event (.valve .opening) } s.cap } := rfl

theorem startClosing_eq (s : State) :
    startClosing s =
      { s with
        vlv := { s.vlv with
          valve := .closing, applied := 0, pendingDuty := 0, pullIn := none, returnDrive := .off
          stroke := some (1000 * s.sup.cfg.strokeTime) }
        cap := appendRecord { time := s.clk.ms, body := .event (.valve .closing) } s.cap } := rfl

/-- Settles O41: the two requests by the valve's state. -/
theorem valveRequestsActByState : Obligations.ValveRequestsActByState := by
  unfold Obligations.ValveRequestsActByState
  intro s record
  refine ⟨fun shut => ?_, fun driven => ?_, fun closing => ?_⟩
  · obtain closed | stuck := shut
    · exact ⟨by rw [openRequest, closed]; rfl, by rw [closeRequest, closed]⟩
    · exact ⟨by rw [openRequest, stuck]; rfl, by rw [closeRequest, stuck]⟩
  · obtain opening | opened := driven
    · exact ⟨by rw [openRequest, opening], by rw [closeRequest, opening]; rfl⟩
    · exact ⟨by rw [openRequest, opened], by rw [closeRequest, opened]; rfl⟩
  · exact ⟨by rw [openRequest, closing]; rfl, by rw [closeRequest, closing]; rfl⟩

/-! ## The valve's own events -/

theorem enterValve_eq (v : ValveState) (s : State) :
    enterValve v s =
      { s with
        vlv := { s.vlv with valve := v }
        cap := appendRecord { time := s.clk.ms, body := .event (.valve v) } s.cap } := rfl

theorem strokeCheck_iff : strokeCheck s = true ↔ s.msu.known = true ∧ s.msu.flow ≤ s.sup.cfg.leakBy := by simp [strokeCheck]

/-- The stroke is over, its fault noted. -/
def strokeEnded (fault : Bool) (s : State) : State :=
  { s with vlv := { s.vlv with stroke := none, reopen := false, strokeFault := fault } }

/-- What a stroke ends in, by its check and the reopening. -/
theorem strokeTimerExpiry_closing (closing : s.vlv.valve = .closing) :
    (strokeCheck s = true → s.vlv.reopen = false → strokeTimerExpiry s = updateAttn (enterValve .closed (strokeEnded false s))) ∧
    (strokeCheck s = true → s.vlv.reopen = true →
      strokeTimerExpiry s = updateAttn (startOpening (enterValve .closed (strokeEnded false s)))) ∧
    (strokeCheck s = false → s.vlv.reopen = false → strokeTimerExpiry s = updateAttn (enterValve .stuck (strokeEnded true s))) ∧
    (strokeCheck s = false → s.vlv.reopen = true → strokeTimerExpiry s = updateAttn (startOpening (strokeEnded true s))) := by
  refine ⟨fun check reopen => ?_, fun check reopen => ?_, fun check reopen => ?_, fun check reopen => ?_⟩
  all_goals
    rw [strokeTimerExpiry, closing, check, reopen]
    rfl

theorem updateAttn_valve {d : Valve} {c : Capture} (moved : t = { s with vlv := d, cap := c }) :
    updateAttn t =
      { s with
        vlv := (updateAttn t).vlv, cap := (updateAttn t).cap, svc := { s.svc with attn := attnNow (updateAttn t) } } := by
  subst moved
  rfl

theorem periodStart_of_other (other : s.vlv.valve ≠ .opened) : periodStart s = s := by
  unfold periodStart
  cases valve : s.vlv.valve with
  | opened => exact absurd valve other
  | closed | opening | closing | stuck => rfl

theorem returnOn_iff (c : ConfigSet) (d : Valve) (t : Nat) :
    returnOn c d t = true ↔ d.returnDrive = .full ∨ (d.returnDrive = .hold ∧ t * 1024 < c.holdDuty * 1000) := by
  unfold returnOn
  cases d.returnDrive <;> simp [pwmOn]

/-- Settles O42: the pull-in, the period and the outputs, and the end of a stroke by its check and the reopening. -/
theorem pullInPeriodAndStrokeMoveTheValve : Obligations.PullInPeriodAndStrokeMoveTheValve := by
  unfold Obligations.PullInPeriodAndStrokeMoveTheValve
  refine ⟨⟨fun s opening => ?_, fun s opened => ?_, fun s other => ?_, fun s => ⟨?_, returnOn_iff _ _ _⟩⟩, fun s closing => ?_⟩
  · exact congrArg Host.Outcome.next (by rw [pullInExpiry, opening]; rfl)
  · exact congrArg Host.Outcome.next (by rw [periodStart, opened]; rfl)
  · exact congrArg Host.Outcome.next (periodStart_of_other other)
  · simp [supplyOutput, supplyOn, pwmOn]
  · intro record good ended opening
    obtain ⟨closes, closesAndOpens, sticks, opens⟩ := strokeTimerExpiry_closing closing
    refine ⟨_, rfl, ?_⟩
    cases check : strokeCheck s
    · have bad : ¬good := mt strokeCheck_iff.2 (by simp [check])
      cases reopen : s.vlv.reopen
      · rw [sticks check reopen]
        exact ⟨rfl, fun now => absurd now bad, fun now => absurd now bad, fun _ _ => ⟨rfl, rfl⟩, fun _ => nofun⟩
      · rw [opens check reopen]
        exact ⟨rfl, fun now => absurd now bad, fun now => absurd now bad, fun _ => nofun, fun _ _ => ⟨rfl, rfl⟩⟩
    · have fine : good := strokeCheck_iff.1 check
      cases reopen : s.vlv.reopen
      · rw [closes check reopen]
        exact ⟨rfl, fun _ _ => ⟨rfl, rfl⟩, fun _ => nofun, absurd fine, absurd fine⟩
      · rw [closesAndOpens check reopen]
        have moved := startOpening_eq (enterValve .closed (strokeEnded false s))
        rw [enterValve_eq, strokeEnded] at moved
        refine ⟨updateAttn_valve moved, fun _ => nofun, fun _ _ => ⟨?_, ?_⟩, absurd fine, absurd fine⟩
        · rw [updateAttn_vlv, startOpening_vlv]
          rfl
        · rw [updateAttn_cap, startOpening_cap]
          rfl

end Sys2Proof.Machine
end

section
/-! PROOF. The items of the read requests, byte by byte (R169 to R178): O43. -/

namespace Sys2Proof.Machine

open Safety

variable {s t : State}

/-! ## The multi-byte fields -/

theorem be16_bytes {n : Nat} (fits : n < 65536) : ∃ h l : Byte, be16 n = [h, l] ∧ 256 * h.toNat + l.toNat = n := by
  refine ⟨_, _, rfl, ?_⟩
  rw [BitVec.toNat_ofNat, BitVec.toNat_ofNat]
  omega

theorem be16Int_bytes {i : Int} (least : -32768 ≤ i) (most : i ≤ 32767) :
    ∃ h l : Byte, be16Int i = [h, l] ∧ (256 * h.toNat + l.toNat : Int) = if i < 0 then i + 65536 else i := by
  refine ⟨_, _, rfl, ?_⟩
  rw [BitVec.toNat_ofNat, BitVec.toNat_ofNat, BitVec.toNat_ofInt]
  split <;> omega

theorem be24Int_bytes {i : Int} (least : -8388608 ≤ i) (most : i ≤ 8388607) :
    ∃ h m l : Byte, be24Int i = [h, m, l] ∧
      (65536 * h.toNat + 256 * m.toNat + l.toNat : Int) = if i < 0 then i + 16777216 else i := by
  refine ⟨_, _, _, rfl, ?_⟩
  rw [BitVec.toNat_ofNat, BitVec.toNat_ofNat, BitVec.toNat_ofNat, BitVec.toNat_ofInt]
  split <;> omega

theorem be32_bytes (t : BitVec 32) :
    ∃ a b c d : Byte, be32 t = [a, b, c, d] ∧ 16777216 * a.toNat + 65536 * b.toNat + 256 * c.toNat + d.toNat = t.toNat := by
  refine ⟨_, _, _, _, rfl, ?_⟩
  have := t.isLt
  simp only [BitVec.toNat_ofNat]
  omega

/-! ## The bytes of single bits -/

/-- The byte whose bits are these, the first the least significant. -/
def bitsByte (l : List Bool) : Byte := BitVec.ofNat 8 (l.foldr (fun b n => 2 * n + b.toNat) 0)

theorem bitsByte_four : ∀ a b c d : Bool, bitAt 0 a ||| bitAt 1 b ||| bitAt 2 c ||| bitAt 3 d = bitsByte [a, b, c, d] := by decide

theorem bitsByte_five :
    ∀ a b c d e : Bool, bitAt 0 a ||| bitAt 1 b ||| bitAt 2 c ||| bitAt 3 d ||| bitAt 4 e = bitsByte [a, b, c, d, e] := by decide

theorem bitsByte_seven :
    ∀ a b c d e f g : Bool,
      bitAt 0 a ||| bitAt 1 b ||| bitAt 2 c ||| bitAt 3 d ||| bitAt 4 e ||| bitAt 5 f ||| bitAt 6 g =
        bitsByte [a, b, c, d, e, f, g] := by
  decide

theorem flagsByte_eq (f : Flags) :
    flagsByte f = bitsByte [f.config, f.sensorFault, f.rosterOverflow, f.watchFired, f.strokeFault] := bitsByte_five ..

theorem stationFlagsByte_eq (s : State) :
    stationFlagsByte s =
      bitsByte [configFlag s, s.sup.sensorFault, s.ros.overflow, s.sup.watchFired, s.vlv.strokeFault, s.sup.configDefaulted,
        s.sup.configAdjusted] := bitsByte_seven ..

/-! ## The parts of items -/

theorem zoneItem_length (r : Option ZoneReading) : (zoneItem r).length = 5 := by cases r <;> rfl

/-- The five bytes of each zone stand in its place. -/
theorem zonesItem_zone (s : State) (z : Fin 4) : ((zonesItem s).drop (5 * z.val)).take 5 = zoneItem s.dsu.latest[z] := by
  fin_cases z <;> simp [zonesItem, List.drop_append, List.drop_eq_nil_of_le, zoneItem_length]

theorem zonesItem_length (s : State) : (zonesItem s).length = 22 := by simp [zonesItem, zoneItem_length]

theorem zonesItem_rest (s : State) : (zonesItem s).drop 20 = [scanStateCode s.dsu.scan, byteOf s.dsu.refFaults] := by
  simp [zonesItem, List.drop_append, List.drop_eq_nil_of_le, zoneItem_length]

theorem padTo_eq {n : Nat} {bytes : List Byte} (fits : bytes.length ≤ n) : padTo n bytes = bytes ++ List.replicate (n - bytes.length) 0 := by
  rw [padTo, List.take_of_length_le fits]

theorem recordBytes_length (b : RecordBody) : (recordBytes b).length ≤ 18 := by
  cases b with
  | zone => exact Nat.le_of_ble_eq_true rfl
  | meas => exact le_rfl
  | event e => cases e <;> exact Nat.le_of_ble_eq_true rfl

theorem captureItem_length (r : Record) : (captureItem r).length = 22 := by
  have fits := recordBytes_length r.body
  rw [captureItem, padTo_eq fits]
  simp [be32]
  omega

theorem captureItem_time (r : Record) : (captureItem r).take 4 = be32 r.time := List.take_left' rfl

theorem captureItem_body (r : Record) :
    (captureItem r).drop 4 = recordBytes r.body ++ List.replicate (18 - (recordBytes r.body).length) 0 :=
  (List.drop_left' (l₁ := be32 r.time) rfl).trans (padTo_eq (recordBytes_length r.body))

/-! ## The requests -/

/-- A read request of a released part answers (R165, R167). -/
theorem exec_read {c : Instr} {f : State → State} (high : s.clk.held = false) (runs : after c = whenReleased f) :
    exec c s = .next (f s) := by
  rw [exec_eq_after, runs, whenReleased_of_released high]

theorem watchItem_eq (s : State) (u : Fin 8) :
    watchItem s u =
      [unitStatusCode s.wch.units[u].status, byteOf s.wch.units[u].count] ++ be24Int (s.wch.units[u].last.getD 0) ++
        [if s.wch.units[u].last = none then 0 else 1] ++
        match s.wch.units[u].window with
        | some us => be16 ((us + 999) / 1000)
        | none => [0xFF, 0xFF] := by
  have known : (if s.wch.units[u].last.isSome = true then (1 : Byte) else 0) = if s.wch.units[u].last = none then 0 else 1 := by
    cases s.wch.units[u].last <;> rfl
  rw [← known]
  rfl

theorem watchItem_length (s : State) (u : Fin 8) : (watchItem s u).length = 8 := by
  rw [watchItem_eq]
  cases s.wch.units[u].window <;> rfl

theorem rosterItem_eq (e : Entry) :
    rosterItem e =
      [e.address.setWidth 8, e.segment.setWidth 8, peerModeCode e.mode,
        bitsByte [e.flags.config, e.flags.sensorFault, e.flags.rosterOverflow, e.flags.watchFired, e.flags.strokeFault]] ++
        be16 e.demand ++ be16 e.flow ++ [e.zones.setWidth 8, byteOf (e.period / 50), livenessCode e.liveness] ++
        be16 (e.silence / 1000) ++ [match e.severity with | some v => severityCode v | none => 0xFF] := by
  rw [← flagsByte_eq]
  rfl

theorem stationItem_eq (s : State) :
    stationItem s =
      [modeCode s.sup.mode,
        bitsByte [configFlag s, s.sup.sensorFault, s.ros.overflow, s.sup.watchFired, s.vlv.strokeFault, s.sup.configDefaulted,
          s.sup.configAdjusted],
        dryCheckCode s.sup.dryCheck] ++
        be16 s.shr.demand ++ be16 s.shr.grant ++ be16 s.shr.duty ++ be16Int s.shr.trim ++
        (if s.msu.known then be16 s.msu.flow else [0xFF, 0xFF]) ++ be16Opt s.msu.chans[0].value ++ be16Opt s.msu.chans[1].value ++
        be16Opt s.msu.chans[2].value ++ be16Opt s.msu.chans[3].value ++ be16Opt s.msu.deltaP ++
        [bitsByte [s.msu.chans[0].value.isSome, s.msu.chans[1].value.isSome, s.msu.chans[2].value.isSome,
            s.msu.chans[3].value.isSome, s.msu.deltaP.isSome],
          valveCode s.vlv.valve, linkCode s.lnk.link, linkErrorCode s.lnk.lastError, byteOf s.ros.entries.length,
          byteOf s.lnk.queue.length] := by
  rw [← stationFlagsByte_eq, ← bitsByte_five]
  have flow : be16 (if s.msu.known then s.msu.flow else 0xFFFF) = if s.msu.known then be16 s.msu.flow else [0xFF, 0xFF] := by
    have unknown : be16 0xFFFF = [0xFF, 0xFF] := by decide
    cases s.msu.known
    · exact unknown
    · rfl
  rw [← flow]
  rfl

theorem captureItem_meas (time : BitVec 32) (f : MeasFigures) :
    (captureItem { time := time, body := .meas f }).drop 4 =
      [1, bitsByte [f.returnTemp.isSome, f.supplyTemp.isSome, f.deltaP.isSome, f.flow.isSome]] ++
        be16Opt f.returnTemp ++ be16Opt f.supplyTemp ++ be16Opt f.deltaP ++ be16 (f.flow.getD 0) ++ be16 f.demand ++
        be16 f.grant ++ be16 f.duty ++ be16Int f.trim := by
  rw [captureItem_body, ← bitsByte_four]
  exact List.append_nil _

theorem exec_watch_bad {i : Byte} (high : s.clk.held = false) (beyond : 8 ≤ i.toNat) :
    exec (.watch i) s = .next (answer .badIndex [] s) :=
  (exec_read high rfl).trans (congrArg Host.Outcome.next (dif_neg (Nat.not_lt.2 beyond)))

theorem exec_watch (high : s.clk.held = false) (u : Fin 8) : exec (.watch (byteOf u.val)) s = .next (answer .ok (watchItem s u) s) := by
  have index : (byteOf u.val).toNat = u.val := by
    rw [byteOf, BitVec.toNat_ofNat]
    omega
  refine (exec_read high rfl).trans (congrArg Host.Outcome.next ((dif_pos (by rw [index]; exact u.isLt)).trans ?_))
  simp only [index]

theorem exec_roster {i : Byte} (high : s.clk.held = false) {e : Entry} (present : s.ros.entries[i.toNat]? = some e) :
    exec (.roster i) s = .next (answer .ok (rosterItem e) s) := by
  refine (exec_read high rfl).trans ?_
  simp only [present]

theorem exec_roster_bad {i : Byte} (high : s.clk.held = false) (beyond : s.ros.entries.length ≤ i.toNat) :
    exec (.roster i) s = .next (answer .badIndex [] s) := by
  refine (exec_read high rfl).trans ?_
  simp only [List.getElem?_eq_none beyond]

theorem exec_capture_running {i : Byte} (high : s.clk.held = false) (running : s.cap.frozen = false) :
    exec (.capture i) s = .next (answer .notFrozen [] s) :=
  (exec_read high rfl).trans (congrArg Host.Outcome.next (if_neg (by simp [running])))

theorem exec_capture {i : Byte} (high : s.clk.held = false) (frozen : s.cap.frozen = true) {r : Record}
    (present : s.cap.ring[i.toNat]? = some r) : exec (.capture i) s = .next (answer .ok (captureItem r) s) := by
  refine (exec_read high rfl).trans ?_
  simp only [frozen, present, if_true]

theorem exec_capture_bad {i : Byte} (high : s.clk.held = false) (frozen : s.cap.frozen = true) (beyond : s.cap.ring.length ≤ i.toNat) :
    exec (.capture i) s = .next (answer .badIndex [] s) := by
  refine (exec_read high rfl).trans ?_
  simp only [frozen, List.getElem?_eq_none beyond, if_true]

/-- Settles O43: the fields, and the item of every request. -/
theorem readRequestsSnapshotTheirItems : Obligations.ReadRequestsSnapshotTheirItems := by
  unfold Obligations.ReadRequestsSnapshotTheirItems
  refine ⟨fun n => be16_bytes, fun i => be16Int_bytes, fun i => be24Int_bytes, be32_bytes, fun s high => ?_⟩
  intro answered value held presence
  refine ⟨fun a g addr seg => ?_, ⟨stationItem s, exec_read (c := .station) high rfl, ?_, stationItem_eq s⟩,
    ⟨zonesItem s, exec_read (c := .zones) high rfl, zonesItem_length s, zonesItem_rest s, fun z => ?_⟩,
    ⟨captureInfoItem s, exec_read (c := .captureInfo) high rfl, rfl, rfl⟩,
    fun u => ⟨watchItem s u, exec_watch high u, watchItem_length s u, watchItem_eq s u⟩,
    fun i beyond => exec_watch_bad high beyond, fun i e present => ⟨rosterItem e, exec_roster high present, rfl, rosterItem_eq e⟩,
    fun i beyond => exec_roster_bad high beyond, fun i running => exec_capture_running high running,
    fun i r frozen present => ⟨captureItem r, exec_capture high frozen present, captureItem_length r, captureItem_time r,
      fun z g st n body => ?_, fun f body => ?_, fun e body => ?_⟩, fun i frozen beyond => exec_capture_bad high frozen beyond⟩
  · rw [exec_read (c := .ident) high rfl]
    simp only [answered, identItem, ownAddress, ownSegment, addr, seg]
    rfl
  · rw [stationItem_eq]
    cases s.msu.known <;> rfl
  · rw [zonesItem_zone]
    cases s.dsu.latest[z] <;> rfl
  · rw [captureItem_body, body]
    rfl
  · obtain ⟨time, _⟩ := r
    obtain rfl := body
    exact captureItem_meas time f
  · rw [captureItem_body, body]
    cases e <;> rfl

end Sys2Proof.Machine
end

section
/-! PROOF. PARK and UNPARK, the reads of the port, and the transactions that spell its commands (R14, R15, R165 to R168): O46, O47. -/

namespace Sys2Proof.Machine

open Safety

variable {s t : State}

/-! ## PARK and UNPARK -/

theorem closeRequest_cap (s : State) :
    (closeRequest s).cap =
      if s.vlv.valve = .opening ∨ s.vlv.valve = .opened then
        appendRecord { time := s.clk.ms, body := .event (.valve .closing) } s.cap
      else s.cap := by
  unfold closeRequest
  cases valve : s.vlv.valve <;> simp

/-- The state of an accepted PARK before the answer and ATTN. -/
theorem acceptPark_eq (s : State) :
    acceptPark s =
      updateAttn (parkShare (abortScan ((queueEvent .leave (closeRequest (changeMode .parked s))).mapLnk fun l =>
        { l with statusPending := false, renewed := false }))) := rfl

theorem restoreBefore_eq (d : DripUnit) :
    restoreBefore d =
      { d with
        tref := if d.scan = .idle then d.tref else d.trefBefore
        refFaults := if d.scan = .idle then d.refFaults else d.refFaultsBefore } := by
  unfold restoreBefore
  split <;> rfl

theorem exec_park (high : s.clk.held = false) :
    exec .park s = .next (if isSending s.sup.mode then answer .ok [] (acceptPark s) else answer .wrongMode [] s) :=
  congrArg Host.Outcome.next (whenReleased_of_released high)

theorem exec_unpark (high : s.clk.held = false) :
    exec .unpark s =
      .next (if s.sup.mode = .parked then answer .ok [] (updateAttn (enterJoining s)) else answer .wrongMode [] s) :=
  congrArg Host.Outcome.next (whenReleased_of_released high)

/-- Settles O46: the two commands block by block, each with the CLOSE request on the entry to its mode. -/
theorem parkAndUnpark : Obligations.ParkAndUnpark := by
  unfold Obligations.ParkAndUnpark
  intro s high wrong recorded
  have closed (m : Mode) {x : State} (cap : x.cap = (changeMode m s).cap) (vlv : x.vlv = s.vlv) (clk : x.clk = s.clk) :
      (closeRequest x).cap = recorded m := by
    rw [closeRequest_cap, cap, vlv, clk, changeMode_cap]
  refine ⟨fun sends => ⟨_, exec_park high, ?_⟩, fun silent => ?_, fun parked idle => ⟨_, exec_unpark high, ?_⟩, fun other => ?_⟩
  · rw [if_pos (isSending_iff.2 sends), acceptPark_eq]
    refine ⟨rfl, ?_, ?_, ?_, ?_, ?_, ?_, rfl, ?_, ?_, ?_, ?_, ?_, ?_⟩
    · simp [answer, parkShare]
      rfl
    · simp [answer, parkShare, changeMode_lnk, isSending, queueEvent]
    · simp [answer, parkShare, changeMode_dsu, isSending, restoreBefore_eq]
    · simp [answer, parkShare]
    · simp [answer, parkShare]
      exact closeRequest_vlv_congr (by simp) (by simp)
    · simp [answer, parkShare]
      exact closed .parked rfl (by simp) (by simp)
    all_goals simp [answer, parkShare]
  · refine (exec_park high).trans (congrArg Host.Outcome.next (if_neg ?_))
    obtain mode | mode | mode | mode := silent
    all_goals rw [mode]; nofun
  · rw [if_pos parked]
    refine ⟨rfl, ?_, ?_, ?_, ?_, ?_, rfl, ?_, ?_, ?_, ?_, ?_, ?_, ?_⟩
    · exact enterJoining_sup s
    · refine (enterJoining_dsu s).trans ?_
      rw [if_pos idle]
      rfl
    · refine (closeRequest_vlv_congr ?_ ?_).trans rfl
      all_goals simp
    · exact enterJoining_lnk s
    · refine closed .joining ?_ ?_ ?_
      all_goals simp
    all_goals simp [answer]
  · exact (exec_unpark high).trans (congrArg Host.Outcome.next (if_neg other))

/-! ## Reads -/

theorem padTo_length (n : Nat) (bytes : List Byte) : (padTo n bytes).length = n := by
  simp [padTo]
  omega

/-- The bytes of a read, 0x00 after the item (R168). -/
theorem padTo_getD {n k : Nat} (clocked : k < n) (bytes : List Byte) : (padTo n bytes).getD k 0 = bytes.getD k 0 := by
  rw [List.getD_eq_getElem?_getD, List.getD_eq_getElem?_getD, padTo]
  obtain within | beyond := Nat.lt_or_ge k bytes.length
  · rw [List.getElem?_append_left (by simp; omega), List.getElem?_take_of_lt clocked]
  · rw [List.getElem?_append_right (by simp; omega), List.getElem?_replicate, List.getElem?_eq_none beyond]
    split <;> rfl

theorem exec_serviceRead {n : Nat} (high : s.clk.held = false) :
    exec (.serviceRead n) s =
      .next { s with
        svc := { s.svc with
          readOut := readBytes s.svc.pendingAnswer n
          pendingAnswer := if n = 0 then s.svc.pendingAnswer else none } } :=
  congrArg Host.Outcome.next (whenReleased_of_released high)

/-! ## Transactions on the bus -/

theorem acknowledges_iff {addr : BitVec 7} : acknowledges addr s = true ↔ addr = 0x4E ∧ s.clk.held = false := by
  rw [acknowledges, Bool.and_eq_true, decide_eq_true_iff, Bool.not_eq_true']
  rfl

/-- The eight bits of a byte, most significant first, spell it. -/
theorem wholeBytes_byte (b : Byte) (bits : List Bool) :
    wholeBytes (((List.range 8).map fun k => b.getMsbD k) ++ bits) = b :: wholeBytes bits := by
  have spelt : ∀ b : Byte, BitVec.ofBool (b.getMsbD 0) ++ BitVec.ofBool (b.getMsbD 1) ++ BitVec.ofBool (b.getMsbD 2) ++
      BitVec.ofBool (b.getMsbD 3) ++ BitVec.ofBool (b.getMsbD 4) ++ BitVec.ofBool (b.getMsbD 5) ++ BitVec.ofBool (b.getMsbD 6) ++
      BitVec.ofBool (b.getMsbD 7) = b := by decide
  exact congrArg (· :: wholeBytes bits) (spelt b)

theorem wholeBytes_cut {cut : List Bool} (short : cut.length < 8) : wholeBytes cut = [] := by
  unfold wholeBytes
  split
  · simp at short
    omega
  · rfl

theorem wholeBytes_bits {cut : List Bool} (short : cut.length < 8) (bytes : List Byte) :
    wholeBytes ((bytes.flatMap fun b => (List.range 8).map fun k => b.getMsbD k) ++ cut) = bytes := by
  induction bytes with
  | nil => exact wholeBytes_cut short
  | cons b bytes ih => rw [List.flatMap_cons, List.append_assoc, wholeBytes_byte, ih]

/-- A code of no request spells BAD_REQUEST (R166). -/
theorem decodeWrite_other {code : Byte} (rest : List Byte)
    (other : code ∉ [0x01, 0x02, 0x03, 0x04, 0x05, 0x06, 0x07, 0x10, 0x11, 0x12, 0x13, 0x14, 0x15, 0x16]) :
    decodeWrite (code :: rest) = some .badRequest := by
  have spelt : code = BitVec.ofNat 8 code.toNat := (BitVec.ofNat_toNat 8 code).symm
  simp only [decodeWrite]
  split
  case h_15 => rfl
  all_goals
    next is =>
      rw [spelt, is] at other
      exact absurd (by decide) other

/-- Settles O47: the refused write, the reads, and the transactions of the bus. -/
theorem badRequestAndServiceRead : Obligations.BadRequestAndServiceRead := by
  unfold Obligations.BadRequestAndServiceRead
  refine ⟨fun s high => ⟨exec_read (c := .badRequest) high rfl, fun a n pending => ⟨_, exec_serviceRead high, ?_⟩,
    fun n none => ⟨_, exec_serviceRead high, ?_⟩⟩, fun s addr c => ⟨?_, fun own high => ?_, fun away => ?_⟩, fun bytes cut short => ?_,
    rfl, ?_, fun addr n => rfl⟩
  · rw [pending]
    exact ⟨padTo_length _ _, fun k clocked => padTo_getD clocked _, rfl, rfl⟩
  · rw [none]
    refine ⟨padTo_length _ _, fun k clocked => (padTo_getD clocked _).trans ?_, ?_⟩
    · cases k <;> rfl
    · rw [ite_self, ← none]
  · exact acknowledges_iff
  · exact if_pos (acknowledges_iff.2 ⟨own, high⟩)
  · refine if_neg fun taken => ?_
    obtain ⟨own, high⟩ := acknowledges_iff.1 taken
    obtain other | held := away
    · exact other own
    · exact absurd (held.symm.trans high) nofun
  · intro bits
    refine ⟨?_, fun addr other => if_neg other⟩
    show decodeWrite (wholeBytes bits) = decodeWrite bytes
    rw [wholeBytes_bits short]
  · intro plain indexed
    refine ⟨fun p mem rest => ?_, fun p mem => ?_, fun code rest plainly index => ?_⟩
    · simp only [plain, List.mem_cons, List.not_mem_nil, or_false] at mem
      obtain rfl | rfl | rfl | rfl | rfl | rfl | rfl | rfl | rfl | rfl | rfl := mem
      all_goals rfl
    · simp only [indexed, List.mem_cons, List.not_mem_nil, or_false] at mem
      obtain rfl | rfl | rfl := mem
      all_goals exact ⟨rfl, fun _ _ => rfl⟩
    · refine decodeWrite_other rest ?_
      simp only [plain, indexed, List.map_cons, List.map_nil, List.mem_cons, List.not_mem_nil, or_false, not_or] at plainly index ⊢
      tauto

end Sys2Proof.Machine
end

section
/-! PROOF. The units that RELEASE and ACKNOWLEDGE return, and the way out of ISOLATED (R12, R16, R17, R119): O44. -/

namespace Sys2Proof.Machine

open Safety

variable {s t : State} {k : Fin 8}

/-! ## The units that leave FIRED -/

/-- A unit that has left FIRED (R119). -/
def leftUnit (c : UnitConfig) (w : WatchUnit) : WatchUnit :=
  { w with status := if c.arming = .always then .armed else .disarmed, count := 0, clear := 0, window := none }

/-- The unit is one that the command returns. -/
def returned (returns : Action → Bool) (s : State) (u : Fin 8) : Bool := isFired s u && returns s.sup.cfg.units[u].action

theorem returned_iff {returns : Action → Bool} {u : Fin 8} :
    returned returns s u = true ↔ s.wch.units[u].status = .fired ∧ returns s.sup.cfg.units[u].action = true := by
  rw [returned, Bool.and_eq_true, isFired, decide_eq_true_iff]

/-- One step of the return. -/
def leaveIf (returns : Action → Bool) (s : State) (u : Fin 8) : State := if returned returns s u then leaveFired u s else s

theorem leaveFiredWhere_eq (returns : Action → Bool) (s : State) : leaveFiredWhere returns s = allUnits.foldl (leaveIf returns) s := rfl

theorem leaveIf_cfg (returns : Action → Bool) (s : State) (u : Fin 8) : (leaveIf returns s u).sup.cfg = s.sup.cfg := by
  unfold leaveIf
  split
  · exact leaveFired_cfg s u
  · rfl

theorem leaveIf_units (returns : Action → Bool) (s : State) (u k : Fin 8) :
    (leaveIf returns s u).wch.units[k] =
      if k = u ∧ returned returns s k = true then leftUnit s.sup.cfg.units[k] s.wch.units[k] else s.wch.units[k] := by
  by_cases leaves : returned returns s u = true
  · have eq : leaveIf returns s u = leaveFired u s := if_pos leaves
    rw [eq, leaveFired_units]
    by_cases same : k = u
    · subst same
      exact (if_pos rfl).trans (if_pos ⟨rfl, leaves⟩).symm
    · exact (if_neg same).trans (if_neg fun both => same both.1).symm
  · have eq : leaveIf returns s u = s := if_neg leaves
    rw [eq]
    refine (if_neg ?_).symm
    rintro ⟨rfl, now⟩
    exact leaves now

theorem leaveIf_returned (returns : Action → Bool) (s : State) {u k : Fin 8} (other : k ≠ u) :
    returned returns (leaveIf returns s u) k = returned returns s k := by
  unfold returned isFired
  rw [leaveIf_units, if_neg (fun both => other both.1), leaveIf_cfg]

theorem leaveIf_cap (returns : Action → Bool) (s : State) (u : Fin 8) :
    (leaveIf returns s u).cap =
        (if returned returns s u then appendRecord { time := s.clk.ms, body := .event (.unitCleared u) } s.cap else s.cap) ∧
      (leaveIf returns s u).clk = s.clk := by
  unfold leaveIf
  split <;> exact ⟨rfl, rfl⟩

theorem leaveFiredWhere_units (returns : Action → Bool) (s : State) (k : Fin 8) :
    (leaveFiredWhere returns s).wch.units[k] =
      if returned returns s k = true then leftUnit s.sup.cfg.units[k] s.wch.units[k] else s.wch.units[k] := by
  have fold (l : List (Fin 8)) (fresh : l.Nodup) : ∀ s : State, (l.foldl (leaveIf returns) s).wch.units[k] =
      if k ∈ l ∧ returned returns s k = true then leftUnit s.sup.cfg.units[k] s.wch.units[k] else s.wch.units[k] := by
    induction l with
    | nil => exact fun s => (if_neg (fun both => nomatch both.1)).symm
    | cons u l ih =>
      intro s
      obtain ⟨absent, fresh⟩ := List.nodup_cons.1 fresh
      rw [List.foldl_cons, ih fresh, leaveIf_cfg, leaveIf_units]
      by_cases same : k = u
      · subst same
        simp [absent, -Fin.getElem_fin]
      · rw [leaveIf_returned returns s same]
        simp [same, -Fin.getElem_fin]
  rw [leaveFiredWhere_eq, fold allUnits (by decide)]
  simp [mem_allUnits, -Fin.getElem_fin]

/-- The records of the units that leave, in ascending number. -/
theorem leaveFiredWhere_cap (returns : Action → Bool) (s : State) :
    (leaveFiredWhere returns s).cap =
      (allUnits.filter (returned returns s)).foldl
        (fun c u => appendRecord { time := s.clk.ms, body := .event (.unitCleared u) } c) s.cap := by
  have fold (l : List (Fin 8)) (fresh : l.Nodup) : ∀ s : State, (l.foldl (leaveIf returns) s).cap =
      (l.filter (returned returns s)).foldl (fun c u => appendRecord { time := s.clk.ms, body := .event (.unitCleared u) } c) s.cap := by
    induction l with
    | nil => exact fun _ => rfl
    | cons u l ih =>
      intro s
      obtain ⟨absent, fresh⟩ := List.nodup_cons.1 fresh
      obtain ⟨cap, clk⟩ := leaveIf_cap returns s u
      have rest : l.filter (returned returns (leaveIf returns s u)) = l.filter (returned returns s) :=
        List.filter_congr fun k mem => leaveIf_returned returns s fun same => absent (same ▸ mem)
      rw [List.foldl_cons, ih fresh, rest, clk, cap, List.filter_cons]
      split <;> rfl
  rw [leaveFiredWhere_eq, fold allUnits (by decide)]

theorem leaveFiredWhere_sup (returns : Action → Bool) (s : State) :
    ∃ b, (leaveFiredWhere returns s).sup = { s.sup with watchFired := b } := by
  refine foldl_induct (P := fun t => ∃ b, t.sup = { s.sup with watchFired := b }) (fun t u told => ?_) allUnits ⟨_, rfl⟩
  obtain ⟨b, eq⟩ := told
  split
  · exact ⟨t.sup.watchFired && anyFired (leaveFired u t), congrArg (fun p : Supervisor => { p with
      watchFired := t.sup.watchFired && anyFired (leaveFired u t) }) eq⟩
  · exact ⟨b, eq⟩

/-- The blocks that units leaving FIRED leave as they are. -/
def LeavesRest (s t : State) : Prop :=
  t.svc = s.svc ∧ t.lnk = s.lnk ∧ t.rli = s.rli ∧ t.ros = s.ros ∧ t.dsu = s.dsu ∧ t.msu = s.msu ∧ t.shr = s.shr ∧ t.vlv = s.vlv ∧
    t.clk = s.clk ∧ t.pending = s.pending

theorem leaveFiredWhere_rest (returns : Action → Bool) (s : State) : LeavesRest s (leaveFiredWhere returns s) := by
  simp [LeavesRest]

theorem records_frozen {l : List (Fin 8)} {ms : BitVec 32} {c : Capture} (frozen : c.frozen = true) :
    l.foldl (fun c u => appendRecord { time := ms, body := .event (.unitCleared u) } c) c = c := by
  induction l with
  | nil => rfl
  | cons u l ih => rw [List.foldl_cons, appendRecord_frozen _ _ frozen, ih]

/-- WATCH_FIRED follows the units that are left FIRED. -/
theorem leaveFiredWhere_watchFired (returns : Action → Bool) (flag : s.sup.watchFired = anyFired s) :
    (leaveFiredWhere returns s).sup.watchFired = anyFired (leaveFiredWhere returns s) :=
  watchFlag_blind.leaves s returns flag

theorem leftUnit_status (c : UnitConfig) (w : WatchUnit) : (leftUnit c w).status ≠ .fired := by
  unfold leftUnit
  dsimp only
  split <;> nofun

/-- A return of every unit leaves none FIRED. -/
theorem anyFired_leaveAll (s : State) : anyFired (leaveFiredWhere (fun _ => true) s) = false := by
  refine Bool.eq_false_iff.2 fun fired => ?_
  obtain ⟨k, fired⟩ := (anyFired_iff _).1 fired
  rw [leaveFiredWhere_units] at fired
  split at fired
  · exact leftUnit_status _ _ fired
  case isFalse stays => exact stays (returned_iff.2 ⟨fired, rfl⟩)

/-! ## RELEASE -/

theorem openRequest_cap (s : State) :
    (openRequest s).cap =
      if s.vlv.valve = .closed ∨ s.vlv.valve = .stuck then
        appendRecord { time := s.clk.ms, body := .event (.valve .opening) } s.cap
      else s.cap := by
  unfold openRequest
  cases valve : s.vlv.valve <;> simp

theorem openRequest_vlv_congr (vlv : t.vlv = s.vlv) (cfg : t.sup.cfg = s.sup.cfg) : (openRequest t).vlv = (openRequest s).vlv := by
  unfold openRequest
  rw [vlv]
  cases s.vlv.valve <;> simp [vlv, cfg]

theorem holdsReleaseBack_iff {u : Fin 8} :
    holdsReleaseBack s u = true ↔
      ∃ v : Int, s.wch.units[u].status = .fired ∧ s.sup.cfg.units[u].action = .isolate ∧
        s.sup.cfg.units[u].source ≠ .peerDrip ∧ s.sup.cfg.units[u].source ≠ .flowExcess ∧
        s.wch.units[u].last = some v ∧ meetsComparison s.sup.cfg.units[u] v = true := by
  have last : (match s.wch.units[u].last with
      | some v => meetsComparison s.sup.cfg.units[u] v
      | none => false) = true ↔ ∃ v, s.wch.units[u].last = some v ∧ meetsComparison s.sup.cfg.units[u] v = true := by
    cases s.wch.units[u].last <;> simp
  simp only [holdsReleaseBack, Bool.and_eq_true, decide_eq_true_eq, isFiredIsolate_iff]
  refine (and_congr_right fun _ => last).trans ?_
  exact ⟨fun ⟨⟨⟨fired, isolate⟩, drip, excess⟩, v, is, meets⟩ => ⟨v, fired, isolate, drip, excess, is, meets⟩,
    fun ⟨v, fired, isolate, drip, excess, is, meets⟩ => ⟨⟨⟨fired, isolate⟩, drip, excess⟩, v, is, meets⟩⟩

theorem exec_release (high : s.clk.held = false) :
    exec .release s = .next
      (if s.sup.mode = .isolated then
        if allUnits.any (holdsReleaseBack s) then answer .stillWet [] s else answer .ok [] (acceptRelease s)
      else answer .wrongMode [] s) :=
  congrArg Host.Outcome.next (whenReleased_of_released high)

theorem exec_acknowledge (high : s.clk.held = false) :
    exec .acknowledge s = .next (answer .ok [] (updateAttn (leaveFiredWhere (fun a => decide (a ≠ .isolate)) s))) :=
  congrArg Host.Outcome.next (whenReleased_of_released high)

/-- Every unit that is FIRED leaves, and no other. -/
theorem leaveAll_units (s : State) (u : Fin 8) :
    (s.wch.units[u].status = .fired →
      (leaveFiredWhere (fun _ => true) s).wch.units[u] = leftUnit s.sup.cfg.units[u] s.wch.units[u]) ∧
    (s.wch.units[u].status ≠ .fired → (leaveFiredWhere (fun _ => true) s).wch.units[u] = s.wch.units[u]) := by
  rw [leaveFiredWhere_units]
  exact ⟨fun fired => if_pos (returned_iff.2 ⟨fired, rfl⟩), fun calm => if_neg (mt returned_iff.1 fun both => calm both.1)⟩

/-- The port and ATTN after an accepted command. -/
theorem accepted_svc (s : State) :
    (answer .ok [] (updateAttn s)).svc =
      { s.svc with pendingAnswer := some { result := .ok, item := [] }, attn := attnNow (answer .ok [] (updateAttn s)) } := rfl

/-- What an accepted RELEASE does once the units have left FIRED (R17). -/
def releasedFrom (x : State) : State := queueEvent (.clear (ownSegment (openRequest (goActive x)))) (openRequest (goActive x))

theorem acceptRelease_eq (s : State) : acceptRelease s = updateAttn (releasedFrom (leaveFiredWhere (fun _ => true) s)) := rfl

theorem releasedFrom_sup (x : State) :
    (releasedFrom x).sup =
      { x.sup with
        mode := if 1 ≤ x.sup.cfg.quorum ∧ x.sup.cfg.quorum ≤ isolationCount x then .contained else .active } := by
  simp only [releasedFrom, queueEvent, State.mapLnk_sup, openRequest_sup, goActive_sup]

theorem releasedFrom_lnk (x : State) :
    (releasedFrom x).lnk =
      { x.lnk with
        queue := enqueueFrame (.clear (ownSegment x)) x.lnk.queue, statusPending := true
        renewed := x.lnk.renewed || statusInFlight x
        announce := if isSending x.sup.mode then x.lnk.announce else some (1000 * x.sup.cfg.pAnn) } := by
  simp only [releasedFrom, queueEvent, State.mapLnk_lnk, openRequest_lnk, goActive_lnk, ownSegment, openRequest_sup, goActive_sup]

theorem releasedFrom_cap (x : State) :
    (releasedFrom x).cap =
      if x.vlv.valve = .closed ∨ x.vlv.valve = .stuck then
        appendRecord { time := x.clk.ms, body := .event (.valve .opening) } (goActive x).cap
      else (goActive x).cap := by
  have opened : (releasedFrom x).cap = (openRequest (goActive x)).cap := rfl
  rw [opened, openRequest_cap, goActive_vlv, goActive_clk]

theorem releasedFrom_vlv (x : State) : (releasedFrom x).vlv = (openRequest x).vlv :=
  openRequest_vlv_congr (goActive_vlv x) (by rw [goActive_sup])

theorem releasedFrom_dsu (x : State) :
    (releasedFrom x).dsu = { x.dsu with scanTimer := some (x.dsu.scanTimer.getD (1000 * x.sup.cfg.scanPeriod)) } := by
  simp only [releasedFrom, queueEvent, State.mapLnk_dsu, openRequest_dsu, goActive_dsu]

theorem releasedFrom_rest (x : State) :
    (releasedFrom x).wch = x.wch ∧ (releasedFrom x).svc = x.svc ∧ (releasedFrom x).ros = x.ros ∧ (releasedFrom x).shr = x.shr ∧
      (releasedFrom x).msu = x.msu ∧ (releasedFrom x).rli = x.rli ∧ (releasedFrom x).clk = x.clk ∧
      (releasedFrom x).pending = x.pending := by
  simp [releasedFrom, queueEvent]

/-- Settles O44: the refusals, and what an accepted RELEASE and an ACKNOWLEDGE leave block by block. -/
theorem releaseAndAcknowledgeReturnTheUnits : Obligations.ReleaseAndAcknowledgeReturnTheUnits := by
  unfold Obligations.ReleaseAndAcknowledgeReturnTheUnits
  intro record
  refine ⟨fun s high => ?_, fun s high => ?_⟩
  · intro refused wet
    have any : allUnits.any (holdsReleaseBack s) = true ↔ wet := by
      rw [List.any_eq_true]
      exact ⟨fun ⟨u, _, holds⟩ => ⟨u, holdsReleaseBack_iff.1 holds⟩, fun ⟨u, holds⟩ => ⟨u, mem_allUnits u, holdsReleaseBack_iff.2 holds⟩⟩
    refine ⟨fun other => ?_, fun isolated isWet => ?_, fun isolated dry => ⟨_, exec_release high, ?_⟩⟩
    · exact (exec_release high).trans (congrArg Host.Outcome.next (if_neg other))
    · exact (exec_release high).trans (congrArg Host.Outcome.next ((if_pos isolated).trans (if_pos (any.2 isWet))))
    · rw [if_pos isolated, if_neg (mt any.1 dry), acceptRelease_eq]
      have chosen : returned (fun _ => true) s = fun u => decide (s.wch.units[u].status = .fired) := by
        funext u
        rw [Bool.eq_iff_iff, returned_iff, decide_eq_true_iff]
        exact and_iff_left rfl
      have cap := leaveFiredWhere_cap (fun _ => true) s
      have units := leaveAll_units s
      have none := anyFired_leaveAll s
      have flagged := leaveFiredWhere_watchFired (s := s) fun _ => true
      obtain ⟨b, supervisor⟩ := leaveFiredWhere_sup (fun _ => true) s
      have rest : LeavesRest s (leaveFiredWhere (fun _ => true) s) := leaveFiredWhere_rest _ s
      generalize leaveFiredWhere (fun _ => true) s = x at cap units none flagged supervisor rest ⊢
      obtain ⟨svc, lnk, rli, ros, dsu, msu, shr, vlv, clk, waiting⟩ := rest
      have cfg : x.sup.cfg = s.sup.cfg := by rw [supervisor]
      have count : isolationCount x = isolationCount s := isolationCount_congr ros (by rw [supervisor])
      have supReleased := releasedFrom_sup x
      have lnkReleased := releasedFrom_lnk x
      have capReleased := releasedFrom_cap x
      have vlvReleased := (releasedFrom_vlv x).trans (openRequest_vlv_congr vlv cfg)
      have dsuReleased := releasedFrom_dsu x
      obtain ⟨wch', svc', ros', shr', msu', rli', clk', waiting'⟩ := releasedFrom_rest x
      rw [goActive_cap] at capReleased
      rw [cfg, count] at supReleased capReleased
      generalize releasedFrom x = y at supReleased lnkReleased capReleased vlvReleased dsuReleased wch' svc' ros' shr' msu' rli' clk' waiting' ⊢
      have moved : y.sup.mode = if 1 ≤ s.sup.cfg.quorum ∧ s.sup.cfg.quorum ≤ isolationCount s then .contained else .active :=
        congrArg Supervisor.mode supReleased
      have noneLeft : anyFired y = false := (anyFired_congr fun u => by rw [wch']).trans none
      refine ⟨rfl, noneLeft, moved, fun u fired => ?_, fun u calm => ?_, vlvReleased, fun closing => ?_, fun shut => ?_, ?_, ?_, ?_,
        fun flag => ?_, ?_, ?_, fun frozen => ?_, ros'.trans ros, shr'.trans shr, msu'.trans msu, rli'.trans rli, clk'.trans clk,
        waiting'.trans waiting⟩
      · exact (congrArg (fun w : Watch => w.units[u]) wch').trans ((units u).1 fired)
      · exact (congrArg (fun w : Watch => w.units[u]) wch').trans ((units u).2 calm)
      · refine vlvReleased.trans ?_
        rw [openRequest, closing]
        rfl
      · refine (congrArg Valve.valve vlvReleased).trans ?_
        obtain closed | stuck := shut
        · rw [openRequest, closed]
          rfl
        · rw [openRequest, stuck]
          rfl
      · refine lnkReleased.trans ?_
        have seg : ownSegment x = ownSegment s := by rw [ownSegment, supervisor, ownSegment]
        have flight : statusInFlight x = statusInFlight s := by rw [statusInFlight, rli, statusInFlight]
        have mode : isSending x.sup.mode = true := by
          rw [supervisor]
          exact congrArg isSending isolated
        rw [if_pos mode, lnk, seg, flight]
      · intro fired cleared active entered
        have clears : x.cap = cleared := by
          rw [cap, chosen]
          rfl
        have capEntered : y.cap = if s.vlv.valve = .closed ∨ s.vlv.valve = .stuck then record s entered (.valve .opening) else entered := by
          rw [capReleased, vlv, clk, clears]
          simp only [entered]
          rw [show (answer .ok [] (updateAttn y)).sup.mode = _ from moved]
          by_cases reached : 1 ≤ s.sup.cfg.quorum ∧ s.sup.cfg.quorum ≤ isolationCount s
          · simp only [if_pos reached, if_true]
            rfl
          · simp only [if_neg reached, reduceCtorEq, if_false]
            rfl
        exact capEntered
      · show y.sup = { s.sup with mode := y.sup.mode, watchFired := y.sup.watchFired }
        rw [moved, supReleased, supervisor]
      · refine (congrArg Supervisor.watchFired supReleased).trans ?_
        exact (flagged flag).trans none
      · rw [dsu, cfg] at dsuReleased
        exact dsuReleased
      · rw [accepted_svc, svc', svc]
      · have stays : x.cap = s.cap := cap.trans (records_frozen frozen)
        have keeps (e : CaptureEvent) : appendRecord { time := s.clk.ms, body := .event e } s.cap = s.cap :=
          appendRecord_frozen _ _ frozen
        refine capReleased.trans ?_
        rw [stays, clk]
        simp only [keeps, ite_self]
  · have chosen : returned (fun a => decide (a ≠ .isolate)) s =
        fun u => decide (s.wch.units[u].status = .fired ∧ s.sup.cfg.units[u].action ≠ .isolate) := by
      funext u
      rw [Bool.eq_iff_iff, returned_iff, decide_eq_true_iff, decide_eq_true_iff]
    have ran := exec_acknowledge high
    have cap := leaveFiredWhere_cap (fun a => decide (a ≠ .isolate)) s
    have units := leaveFiredWhere_units (fun a => decide (a ≠ .isolate)) s
    have flagged := leaveFiredWhere_watchFired (s := s) fun a => decide (a ≠ .isolate)
    obtain ⟨b, supervisor⟩ := leaveFiredWhere_sup (fun a => decide (a ≠ .isolate)) s
    have rest : LeavesRest s (leaveFiredWhere (fun a => decide (a ≠ .isolate)) s) := leaveFiredWhere_rest _ s
    generalize leaveFiredWhere (fun a => decide (a ≠ .isolate)) s = x at ran cap units flagged supervisor rest
    obtain ⟨svc, lnk, rli, ros, dsu, msu, shr, vlv, clk, waiting⟩ := rest
    refine ⟨_, ran, ?_, fun u fired other => ?_, fun u still => ?_, fun flag => ?_, ?_, fun frozen => ?_, lnk, rli, ros, dsu, msu, shr,
      vlv, clk, waiting⟩
    · rw [accepted_svc, svc]
    · exact (units u).trans (if_pos (returned_iff.2 ⟨fired, decide_eq_true other⟩))
    · refine (units u).trans (if_neg fun leaves => ?_)
      obtain ⟨fired, other⟩ := returned_iff.1 leaves
      obtain calm | isolate := still
      · exact calm fired
      · exact of_decide_eq_true other isolate
    · have follows := flagged flag
      rw [supervisor] at follows
      show x.sup = { s.sup with watchFired := anyFired x }
      rw [← follows, supervisor]
    · rw [← chosen]
      exact cap
    · exact cap.trans (records_frozen frozen)

end Sys2Proof.Machine
end

section
/-! PROOF. The sample point of a cell (R22, R27 to R30, R36, R37): what it does with the bit it reads. O19. -/

namespace Sys2Proof.Machine

open Safety

variable {s t : State}

/-! ## A sample point (R22, R27 to R30, R36, R37) -/

theorem takeBit_start (start : s.rli.frame.cells = 0) :
    takeBit false s = s.mapRli fun r => { r with frame := { s.rli.frame with cells := 1, shift := 0 } } := by
  simp [takeBit, start]

theorem takeBit_data (bit : Bool) (first : 1 ≤ s.rli.frame.cells) (last : s.rli.frame.cells ≤ 8) :
    takeBit bit s = s.mapRli fun r => { r with
      frame := { s.rli.frame with
        cells := s.rli.frame.cells + 1, shift := (s.rli.frame.shift <<< 1) ||| (if bit then 1 else 0) } } := by
  have inside : s.rli.frame.cells ≠ 0 := by omega
  have before : s.rli.frame.cells < 9 := by omega
  simp only [takeBit, inside, before, if_true, if_false]

theorem takeBit_zero (first : 1 ≤ s.rli.frame.cells) (last : s.rli.frame.cells ≤ 8) :
    takeBit false s = s.mapRli fun r => { r with
      frame := { s.rli.frame with cells := s.rli.frame.cells + 1, shift := s.rli.frame.shift <<< 1 } } := by
  have shifted : s.rli.frame.shift <<< 1 ||| (0 : Byte) = s.rli.frame.shift <<< 1 := BitVec.or_zero
  rw [takeBit_data false first last]
  simp only [Bool.false_eq_true, if_false, shifted]

theorem takeBit_wrong {bit : Bool} (wrong : s.rli.frame.cells = 0 ∧ bit = true ∨ s.rli.frame.cells = 9 ∧ bit = false) :
    takeBit bit s = receptionError .frameError s := by
  obtain ⟨start, rfl⟩ | ⟨stop, rfl⟩ := wrong
  · simp [takeBit, start]
  · simp [takeBit, stop]

/-- A stop cell that reads 1 takes the byte. -/
theorem takeBit_stop (stop : s.rli.frame.cells = 9) :
    takeBit true s =
      if (s.rli.frame.taken ++ [s.rli.frame.shift]).length = 2 ∧ 8 < frameLengthField (s.rli.frame.taken ++ [s.rli.frame.shift]) then
        receptionError .lengthError s
      else if 3 ≤ (s.rli.frame.taken ++ [s.rli.frame.shift]).length ∧
          (s.rli.frame.taken ++ [s.rli.frame.shift]).length = 3 + frameLengthField (s.rli.frame.taken ++ [s.rli.frame.shift]) then
        endFrame s.rli.frame.check (s.rli.frame.taken ++ [s.rli.frame.shift]) s
      else
        s.mapRli fun r => { r with
          frame := { taken := s.rli.frame.taken ++ [s.rli.frame.shift], cells := 0, shift := 0
                     check := crcByte s.rli.frame.check s.rli.frame.shift } } := by
  simp [takeBit, stop]

/-- The line with its cell sampled. -/
def sampledCell (k : Cell) (s : State) : State := { s with rli := { s.rli with cell := some { k with sampled := true } } }

theorem exec_cellSamplePoint {k : Cell} (rx : s.rli.rx = .inFrame) (cell : s.rli.cell = some k) (early : k.sampled = false) :
    exec .cellSamplePoint s = .next (updateAttn (sampleCell s)) := by
  simp only [exec_eq_after, after, cellSamplePoint, rx, cell, early, Bool.false_eq_true, if_false]

theorem sampleCell_agrees {k : Cell} (cell : s.rli.cell = some k)
    (agrees : ∀ f, s.rli.tx = some f → frameCell f.bytes s.rli.frame.taken.length s.rli.frame.cells = !s.rli.lineLow) :
    sampleCell s = takeBit (!s.rli.lineLow) (sampledCell k s) := by
  have sampled : (s.mapRli fun r => { r with cell := r.cell.map fun c => { c with sampled := true } }) = sampledCell k s := by
    simp [State.mapRli, sampledCell, cell]
  simp only [sampleCell, sampled]
  cases flies : s.rli.tx with
  | none => simp [sampledCell, flies]
  | some f => simp [sampledCell, flies, sentCell, agrees f flies]

/-- A sender that reads another bit than it sent has lost the arbitration, or meets a BIT_ERROR. -/
theorem sampleCell_differs {k : Cell} {f : TxFrame} (cell : s.rli.cell = some k) (flies : s.rli.tx = some f)
    (differs : frameCell f.bytes s.rli.frame.taken.length s.rli.frame.cells = s.rli.lineLow) :
    sampleCell s =
      if (s.rli.lineLow && isArbitrationCell s.rli.frame.taken.length s.rli.frame.cells) = true then
        takeBit (!s.rli.lineLow) (attemptLost (sampledCell k s))
      else attemptBitError (sampledCell k s) := by
  have sampled : (s.mapRli fun r => { r with cell := r.cell.map fun c => { c with sampled := true } }) = sampledCell k s := by
    simp [State.mapRli, sampledCell, cell]
  simp only [sampleCell, sampled]
  cases level : s.rli.lineLow <;> simp [sampledCell, flies, sentCell, differs, level]

/-- The end of a frame does not look at the cell. -/
theorem endFrame_sampledCell (check : Byte) (bytes : List Byte) (k : Cell) (s : State) :
    endFrame check bytes (sampledCell k s) = endFrame check bytes s := by
  unfold endFrame handGoodFrame sampledCell
  cases flies : s.rli.tx with
  | none => split <;> rfl
  | some f => split <;> rfl

/-- At its last stop cell a frame is the one of the bytes taken. -/
theorem frameAdmitted_stop (rx : s.rli.rx = .inFrame) (stop : s.rli.frame.cells = 9)
    (within : frameLengthField (s.rli.frame.taken ++ [s.rli.frame.shift]) ≤ 8)
    (length : (s.rli.frame.taken ++ [s.rli.frame.shift]).length = 3 + frameLengthField (s.rli.frame.taken ++ [s.rli.frame.shift]))
    (own : ∀ f, s.rli.tx = some f → f.bytes = s.rli.frame.taken ++ [s.rli.frame.shift]) :
    frameAdmitted (s.rli.frame.taken ++ [s.rli.frame.shift]) s = true := by
  have agrees : agreesWith (s.rli.frame.taken ++ [s.rli.frame.shift]) s.rli.frame = true := by
    simp [agreesWith, stop]
  have sender : (match s.rli.tx with
      | some t => decide (t.bytes = s.rli.frame.taken ++ [s.rli.frame.shift])
      | none => true) = true := by
    cases flies : s.rli.tx with
    | none => rfl
    | some f => exact decide_eq_true (own f flies)
  simp only [frameAdmitted, rx, agrees, decide_eq_true within, decide_eq_true length, decide_true, Bool.and_self, Bool.true_and]
  exact sender

theorem sampledLine_still {r : RowLine} (level : r.lineLow = false) (lowTime : r.lowTime = none) (driver : r.driver = none) :
    { sampledLine true false r with driver := none } = r := by
  obtain ⟨_, _, _, _, _, _, _, _⟩ := r
  obtain rfl := level
  obtain rfl := lowTime
  obtain rfl := driver
  rfl

/-- There GOOD_FRAME finds the line as it is. -/
theorem stopCell_reached {k : Cell} (cell : s.rli.cell = some k) (early : k.sampled = false) (stop : s.rli.frame.cells = 9)
    (level : s.rli.lineLow = false) (lowTime : s.rli.lowTime = none) (driver : s.rli.driver = none) :
    stopCell (s.rli.frame.taken ++ [s.rli.frame.shift]) s = s := by
  have stands : standsAt ((s.rli.frame.taken ++ [s.rli.frame.shift]).length - 1) 9 s.rli = true := by
    simp [standsAt, unsampled, cell, early, stop]
  rw [stopCell, stands, State.mapRli, sampledLine_still level lowTime driver]

/-- Settles O19: the bit by the cell it is read in, for a sender that agrees and for one that does not. -/
theorem cellSampleReadsTheLine : Obligations.CellSampleReadsTheLine := by
  unfold Obligations.CellSampleReadsTheLine
  intro s k rx cell early current bit a r agrees
  have reads (ok : agrees) : exec .cellSamplePoint s = .next (updateAttn (takeBit bit (sampledCell k s))) := by
    rw [exec_cellSamplePoint rx cell early, sampleCell_agrees cell ok]
  have silent (none : s.rli.tx = none) : agrees := fun f flies => absurd (none.symm.trans flies) nofun
  have kept (other : ¬(bit = false ∧ a.taken.length < 2 ∧ 1 ≤ a.cells ∧ a.cells ≤ 8)) :
      ¬(s.rli.lineLow && isArbitrationCell s.rli.frame.taken.length s.rli.frame.cells) = true := by
    simpa [isArbitrationCell, bit, and_assoc] using other
  refine ⟨fun ok start low => ?_, fun ok first last => ?_, fun none wrong => ?_, fun f flies header first last sent low => ?_,
    fun f flies differs arbitration few => ?_, fun f flies differs arbitration three => ?_, fun ok stop high => ?_⟩
  · rw [reads ok, low, takeBit_start (s := sampledCell k s) start, updateAttn_of_current]
    · rfl
    · exact current
  · rw [reads ok, takeBit_data (s := sampledCell k s) bit first last, updateAttn_of_current]
    · rfl
    · exact current
  · rw [reads (silent none), takeBit_wrong (s := sampledCell k s) wrong, updateAttn_of_current]
    · simp only [receptionError_eq, sampledCell, none]
    · exact current
  · have level : s.rli.lineLow = true := by simpa [bit] using low
    have lost : (s.rli.lineLow && isArbitrationCell s.rli.frame.taken.length s.rli.frame.cells) = true := by
      simpa [level, isArbitrationCell, and_assoc] using ⟨Nat.le_of_lt_succ header, first, last⟩
    rw [exec_cellSamplePoint rx cell early, sampleCell_differs cell flies (sent.trans level.symm), if_pos lost,
      show (!s.rli.lineLow) = false from low, takeBit_zero (s := attemptLost (sampledCell k s)) first last, updateAttn_of_current]
    · rfl
    · exact current
  · rw [exec_cellSamplePoint rx cell early, sampleCell_differs cell flies (differs.trans (Bool.not_not _)), if_neg (kept arbitration),
      attemptBitError_of_few (s := sampledCell k s) few, updateAttn_of_current]
    · rfl
    · exact current
  · rw [exec_cellSamplePoint rx cell early, sampleCell_differs cell flies (differs.trans (Bool.not_not _)), if_neg (kept arbitration),
      attemptBitError_fourth (s := sampledCell k s) flies three, updateAttn_of_current]
    · rfl
    · exact current
  · intro bytes overlong whole
    have level : s.rli.lineLow = false := by simpa [bit] using high
    have stops := takeBit_stop (s := sampledCell k s) stop
    rw [reads ok, high]
    refine ⟨fun none long => ?_, fun short part => ?_, fun ends within check lowTime driver own => ?_⟩
    · rw [stops.trans (if_pos long), updateAttn_of_current]
      · simp only [receptionError_eq, sampledCell, none, level, Bool.false_eq_true, if_false]
      · exact current
    · rw [stops.trans ((if_neg short).trans (if_neg part)), updateAttn_of_current]
      · rfl
      · exact current
    · have short : ¬overlong := fun long => by
        have two := long.1
        have three := ends.1
        omega
      have reached := (stops.trans ((if_neg short).trans (if_pos ends))).trans (endFrame_sampledCell _ _ k s)
      rw [reached, exec_goodFrame (frameAdmitted_stop rx stop within ends.2 own),
        stopCell_reached cell early stop level lowTime driver]
      have dropped : bytes.dropLast = s.rli.frame.taken := List.dropLast_concat
      rw [dropped, ← check]
      rfl

end Sys2Proof.Machine
end

section
/-! PROOF. The blocks behind the row line do not read the quiet timer: what a good frame does to them commutes with setting it (R24, R54). -/

namespace Sys2Proof.Machine

open Safety

variable {f g : State → State}

/-- The state with the quiet timer set. -/
def withQuiet (q : QuietTimer) (s : State) : State := { s with rli := { s.rli with quiet := q } }

@[simp] theorem withQuiet_sup (q : QuietTimer) (s : State) : (withQuiet q s).sup = s.sup := rfl
@[simp] theorem withQuiet_lnk (q : QuietTimer) (s : State) : (withQuiet q s).lnk = s.lnk := rfl
@[simp] theorem withQuiet_ros (q : QuietTimer) (s : State) : (withQuiet q s).ros = s.ros := rfl
@[simp] theorem withQuiet_wch (q : QuietTimer) (s : State) : (withQuiet q s).wch = s.wch := rfl
@[simp] theorem withQuiet_vlv (q : QuietTimer) (s : State) : (withQuiet q s).vlv = s.vlv := rfl
@[simp] theorem withQuiet_tx (q : QuietTimer) (s : State) : (withQuiet q s).rli.tx = s.rli.tx := rfl
@[simp] theorem withQuiet_quiet (q : QuietTimer) (s : State) : (withQuiet q s).rli.quiet = q := rfl

/-- f neither reads the quiet timer nor sets it. -/
def QuietBlind (f : State → State) : Prop := ∀ q s, f (withQuiet q s) = withQuiet q (f s)

namespace QuietBlind

theorem same : QuietBlind id := fun _ _ => rfl

theorem comp (outer : QuietBlind g) (inner : QuietBlind f) : QuietBlind fun s => g (f s) :=
  fun q s => (congrArg g (inner q s)).trans (outer q (f s))

theorem ite {c : State → Prop} [∀ s, Decidable (c s)] (reads : ∀ q s, c (withQuiet q s) ↔ c s) (yes : QuietBlind f)
    (no : QuietBlind g) : QuietBlind fun s => if c s then f s else g s := by
  intro q s
  by_cases holds : c s
  · simp only [(reads q s).2 holds, holds, if_true, yes q s]
  · simp only [mt (reads q s).1 holds, holds, if_false, no q s]

theorem foldl {α : Type} {h : State → α → State} (each : ∀ a, QuietBlind fun s => h s a) (list : List α) :
    QuietBlind fun s => list.foldl h s := by
  intro q s
  induction list generalizing s with
  | nil => rfl
  | cons a rest ih => exact (congrArg (rest.foldl h) (each a q s)).trans (ih _)

/-! ## Modes and the valve -/

theorem closeRequest : QuietBlind closeRequest := by
  intro q s
  cases valve : s.vlv.valve <;> simp only [Machine.closeRequest, withQuiet_vlv, valve] <;> rfl

theorem changeMode (m : Mode) : QuietBlind (changeMode m) := fun q s => by cases m <;> rfl

theorem evalContainment : QuietBlind evalContainment := by
  refine ite (c := fun s => s.sup.cfg.quorum = 0) (fun _ _ => .rfl) same fun q s => ?_
  have joins := ite (c := fun s => s.sup.cfg.quorum ≤ isolationCount s) (fun _ _ => .rfl) (changeMode .contained) same q s
  have leaves := ite (c := fun s => isolationCount s < s.sup.cfg.quorum) (fun _ _ => .rfl) (changeMode .active) same q s
  cases mode : s.sup.mode <;> simp only [withQuiet_sup, mode]
  case active => exact joins
  case contained => exact leaves

theorem queueDrip (v : Severity) : QuietBlind (queueDrip v) := fun _ _ => rfl

theorem enterIsolated : QuietBlind enterIsolated :=
  evalContainment.comp ((queueDrip .isolate).comp (closeRequest.comp (changeMode .isolated)))

theorem failJoin : QuietBlind failJoin := fun _ _ => rfl

theorem isolateAction : QuietBlind isolateAction := by
  intro q s
  cases mode : s.sup.mode <;> simp only [Machine.isolateAction, withQuiet_sup, mode]
  case active | contained => exact enterIsolated q s
  case joining => exact enterIsolated.comp failJoin q s
  case isolated => exact (queueDrip .isolate).comp closeRequest q s
  case conflict => exact closeRequest q s

/-! ## The watch engine -/

theorem mapUnit (u : Fin 8) (h : WatchUnit → WatchUnit) : QuietBlind (mapUnit u h) := fun _ _ => rfl

theorem armUnitOf (event : Arming) (u : Fin 8) :
    QuietBlind fun s =>
      if s.sup.cfg.units[u].arming = event then Machine.mapUnit u (armUnit s.sup.cfg.units[u]) s else s :=
  ite (c := fun s => s.sup.cfg.units[u].arming = event) (fun _ _ => .rfl) (fun _ _ => rfl) same

theorem armDependants (event : Arming) : QuietBlind (armDependants event) := by
  intro q s
  simp only [Machine.armDependants]
  generalize allUnits = units
  exact foldl (armUnitOf event) units q s

theorem requestFreeze (reason : FreezeReason) (unit : Option (Fin 8)) : QuietBlind (requestFreeze reason unit) := fun _ _ => rfl

theorem runAction (u : Fin 8) : QuietBlind (runAction u) := by
  intro q s
  have alerts := ite (c := fun s => isSending s.sup.mode = true) (fun _ _ => .rfl) (queueDrip .alert) same q s
  cases action : s.sup.cfg.units[u].action <;> simp only [Machine.runAction, withQuiet_sup, action]
  case alert => exact alerts
  case isolate => exact isolateAction.comp (requestFreeze .isolate (some u)) q s
  case freeze => rfl

theorem fireUnit (u : Fin 8) : QuietBlind (fireUnit u) :=
  (armDependants (.afterUnit u)).comp ((runAction u).comp fun _ _ => rfl)

theorem countSample (u : Fin 8) (v : Int) : QuietBlind (countSample u v) := by
  refine ite (c := fun s => qualifies s.sup.cfg.units[u] v = true) (fun _ _ => .rfl)
    (ite (c := fun s => s.sup.cfg.units[u].countN ≤ s.wch.units[u].count + 1) (fun _ _ => .rfl) (fireUnit u) (mapUnit u _)) fun q s => ?_
  cases mode : s.sup.cfg.units[u].countMode <;> simp only [withQuiet_sup, mode]
  case consecutive => rfl

theorem clearSample (u : Fin 8) (v : Int) : QuietBlind (clearSample u v) := by
  intro q s
  have clears := ite (c := fun s => qualifies s.sup.cfg.units[u] v = true) (fun _ _ => .rfl)
    (mapUnit u fun w => { w with clear := 0 })
    (ite (c := fun s => s.sup.cfg.units[u].clearCount ≤ s.wch.units[u].clear + 1) (fun _ _ => .rfl)
      (f := leaveFired u) (fun _ _ => rfl) (mapUnit u fun w => { w with clear := w.clear + 1 })) q s
  cases latch : s.sup.cfg.units[u].latch <;> simp only [Machine.clearSample, withQuiet_sup, latch]
  case selfClear => exact clears

theorem unitTakesSample (a : UnitStatus) (u : Fin 8) (v : Int) : QuietBlind (unitTakesSample a u v) := by
  cases a with
  | disarmed => exact fun _ _ => rfl
  | armed => exact (countSample u v).comp (mapUnit u _)
  | fired => exact (clearSample u v).comp (mapUnit u _)

theorem deliverSample (src : Source) (v : Int) : QuietBlind (deliverSample src v) := by
  refine ite (c := fun s => isEvaluating s.sup.mode = true) (fun _ _ => .rfl) (fun q s => ?_) same
  have each (u : Fin 8) := ite (c := fun t => t.sup.cfg.units[u].source = src) (fun _ _ => .rfl)
    (unitTakesSample s.wch.units[u].status u v) same
  simp only [withQuiet_wch]
  generalize allUnits = units
  exact foldl each units q s

theorem watchPeerDrip (src : Address) : QuietBlind (watchPeerDrip src) :=
  ite (c := fun s => isEvaluating s.sup.mode = true) (fun _ _ => .rfl)
    ((deliverSample .peerDrip src.toNat).comp (armDependants .afterPeerDrip)) same

/-! ## Frames -/

theorem dripPeerDrip : QuietBlind dripPeerDrip :=
  ite (c := fun s => isEvaluating s.sup.mode = true) (fun _ _ => .rfl) (fun _ _ => rfl) same

theorem peerDripArrival (src : Address) (sev : Severity) : QuietBlind (peerDripArrival src sev) :=
  dripPeerDrip.comp ((watchPeerDrip src).comp fun _ _ => rfl)

theorem rosterTook (src : Address) (p : PeerFrame) : QuietBlind (rosterTook src p) := by
  intro q s
  exact ite (c := fun s => (rosterTakes s.sup.cfg.pAnn src p s.ros).2 = true) (fun _ _ => .rfl)
    (f := fun s => changeNotice (s.mapRos fun _ => (rosterTakes s.sup.cfg.pAnn src p s.ros).1))
    (evalContainment.comp fun _ _ => rfl) (g := fun s => s.mapRos fun _ => (rosterTakes s.sup.cfg.pAnn src p s.ros).1)
    (fun _ _ => rfl) q s

theorem takeFrame (src : Address) (p : PeerFrame) : QuietBlind (takeFrame src p) := by
  intro q s
  cases p with
  | drip seg sev zones =>
    exact (ite (c := fun t => some seg = t.sup.ownSeg) (fun _ _ => .rfl) (peerDripArrival src sev) same).comp
      (rosterTook src (.drip seg sev zones)) q s
  | status | clear | leave | unknown => exact rosterTook src _ q s

theorem conflictAtLink : QuietBlind conflictAtLink := by
  intro q s
  cases flies : s.rli.tx <;> simp only [Machine.conflictAtLink, abandonAttempt, withQuiet_tx, flies] <;> rfl

theorem conflictReport : QuietBlind conflictReport := by
  have enters : QuietBlind enterConflict :=
    conflictAtLink.comp (QuietBlind.comp (g := fun s => s.mapSup fun p => { p with joinTimer := none }) (fun _ _ => rfl)
      (changeMode .conflict))
  intro q s
  cases mode : s.sup.mode <;> simp only [Machine.conflictReport, withQuiet_sup, mode]
  all_goals exact enters q s

theorem sortFrame (p : RxFrame) : QuietBlind (sortFrame p) :=
  ite (c := fun _ => wrongLength p = true) (fun _ _ => .rfl) (fun _ _ => rfl)
    (ite (c := fun s => some p.src = s.sup.ownAddr) (fun _ _ => .rfl) conflictReport (takeFrame _ _))

theorem updateAttn : QuietBlind updateAttn := fun _ _ => rfl

end QuietBlind

end Sys2Proof.Machine
end

section
/-! PROOF. A frame received cell by cell (R21, R22, R26 to R30): O21. -/

namespace Sys2Proof.Machine

open Safety

variable {s t : State}

/-! ## Running commands -/

/-- The state after some commands, one after another. -/
def afterAll (cs : List Instr) (s : State) : State := cs.foldl (fun t c => after c t) s

theorem runCommands_eq (cs : List Instr) (s : State) : runCommands cs s = .next (afterAll cs s) := by
  induction cs generalizing s with
  | nil => rfl
  | cons c cs ih =>
    simp only [runCommands, exec_eq_after]
    exact ih _

theorem afterAll_append (cs ds : List Instr) (s : State) : afterAll (cs ++ ds) s = afterAll ds (afterAll cs s) := List.foldl_append

theorem afterAll_cons (c : Instr) (cs : List Instr) (s : State) : afterAll (c :: cs) s = afterAll cs (after c s) := rfl

/-! ## The frame under assembly -/

/-- The assembly where n cells of byte b have been taken after the bytes `taken` (R26, R30). -/
def assemblyAt (taken : List Byte) (b : Byte) (n : Nat) : Assembly :=
  { taken, cells := n, shift := b >>> (9 - n), check := crc taken }

theorem crc_append (taken : List Byte) (b : Byte) : crc (taken ++ [b]) = crcByte (crc taken) b := List.foldl_append

theorem shift_start (b : Byte) : b >>> (9 - 0) = 0 := by
  revert b
  decide

theorem shift_first (b : Byte) : b >>> (9 - (0 + 1)) = 0 := by
  revert b
  decide

theorem shift_stop (b : Byte) : b >>> (9 - 9) = b := BitVec.ushiftRight_zero b

/-- A data bit joins the byte (R27). -/
theorem shift_data (b : Byte) {n : Nat} (first : 1 ≤ n) (last : n ≤ 8) :
    (b >>> (9 - n)) <<< 1 ||| (if byteCell b n then 1 else 0) = b >>> (9 - (n + 1)) := by
  revert b
  interval_cases n <;> decide

theorem assemblyAt_next (taken : List Byte) (b next : Byte) :
    assemblyAt (taken ++ [b]) next 0 = { taken := taken ++ [b], cells := 0, shift := 0, check := crcByte (crc taken) b } := by
  simp only [assemblyAt, shift_start, crc_append]

/-! ## One cell -/

/-- The state inside a frame under reception, with the line at `low` and its last edge `ago` µs before. -/
def inCell (ago : Nat) (sampled low : Bool) (a : Assembly) (s : State) : State :=
  { s with
    rli := { s.rli with
      rx := .inFrame, lineLow := low, quiet := .running ago, lowTime := if low then some ago else none
      cell := some { age := ago, sampled := sampled }, frame := a, tx := none }
    lnk := { s.lnk with link := if s.lnk.link = .holdoff then .holdoff else .receiving } }

/-- Any falling edge that the filter lets through begins the next cell, with a assembled. -/
def AwaitsFall (a : Assembly) (s t : State) : Prop :=
  ∀ held, 2 ≤ held → after (.rowFallingEdge held) t = inCell (filterDelay s.sup.cfg) false true a s

/-- The start edge on an idle line (R26). -/
theorem startEdge_begins (idle : s.rli.rx = .idle) (high : s.rli.lineLow = false) (silent : s.rli.tx = none)
    (offer : standingOffer s = none) : AwaitsFall emptyAssembly s s := by
  intro held long
  have taken : fallingEdge held s = startReceiving (filterDelay s.sup.cfg) s := by
    rw [fallingEdge_taken high (fun _ => long) idle, startEdgeTaken, offer]
  refine taken.trans ?_
  simp only [startReceiving, State.mapLnk, State.mapRli, enterFrame, takeFall, beginCell, silent]
  rfl

/-- A falling edge after the sample point (R21). -/
theorem fall_begins (s : State) (a : Assembly) :
    AwaitsFall a s (inCell (filterDelay s.sup.cfg) true false a s) := by
  intro held long
  have begins : fallInFrame (filterDelay s.sup.cfg) (inCell (filterDelay s.sup.cfg) true false a s).rli =
      (inCell (filterDelay s.sup.cfg) false true a s).rli := by
    rw [fallInFrame_next (k := { age := filterDelay s.sup.cfg, sampled := true }) rfl (.inl rfl)]
    simp only [beginCell, takeFall, inCell]
    rfl
  refine (fallingEdge_of_taken (s := inCell (filterDelay s.sup.cfg) true false a s) (fun _ => long) (.inl rfl)).trans ?_
  exact congrArg (fun r => { inCell (filterDelay s.sup.cfg) true false a s with rli := r }) begins

theorem rise_inCell {held : Nat} (long : 2 ≤ held) (sampled : Bool) (a : Assembly) :
    after (.rowRisingEdge held) (inCell (filterDelay s.sup.cfg) sampled true a s) =
      inCell (filterDelay s.sup.cfg) sampled false a s := by
  have taken : edgeTaken s.sup.cfg held = true := (edgeTaken_iff s.sup.cfg held).2 fun _ => long
  simp only [after, risingEdge, inCell, taken]
  rfl

theorem sample_inCell (ago : Nat) (low : Bool) (a : Assembly) (s : State) :
    after .cellSamplePoint (inCell ago false low a s) = updateAttn (takeBit (!low) (inCell ago true low a s)) := by
  have ran := exec_cellSamplePoint (s := inCell ago false low a s) (k := { age := ago, sampled := false }) rfl rfl rfl
  rw [exec_eq_after] at ran
  have runs : after .cellSamplePoint (inCell ago false low a s) = updateAttn (sampleCell (inCell ago false low a s)) := by
    injection ran
  rw [runs, sampleCell_agrees (s := inCell ago false low a s) (k := { age := ago, sampled := false }) rfl nofun]
  rfl

/-- A cell whose bit joins the frame leaves the line high, waiting for the next fall (R22, R27). -/
theorem cell_received {bit : Bool} {a b : Assembly} (current : s.svc.attn = attnNow s)
    (takes : ∀ low, low = !bit → takeBit bit (inCell (filterDelay s.sup.cfg) true low a s) = inCell (filterDelay s.sup.cfg) true low b s)
    (awaits : AwaitsFall a s t) : AwaitsFall b s (afterAll (cellCommands bit) t) := by
  have sampled (low : Bool) (reads : low = !bit) :
      after .cellSamplePoint (inCell (filterDelay s.sup.cfg) false low a s) = inCell (filterDelay s.sup.cfg) true low b s := by
    rw [sample_inCell _ low a s, show (!low) = bit by simp [reads], takes low reads]
    exact updateAttn_of_current (s := inCell (filterDelay s.sup.cfg) true low b s) current
  suffices reached : afterAll (cellCommands bit) t = inCell (filterDelay s.sup.cfg) true false b s by
    rw [reached]
    exact fall_begins s b
  cases bit with
  | true =>
    have falls := awaits 5 (by decide)
    calc afterAll (cellCommands true) t
        = after .cellSamplePoint (after (.rowRisingEdge 15) (after (.rowFallingEdge 5) t)) := rfl
      _ = inCell (filterDelay s.sup.cfg) true false b s := by rw [falls, rise_inCell (by decide), sampled false rfl]
  | false =>
    have falls := awaits 15 (by decide)
    calc afterAll (cellCommands false) t
        = after (.rowRisingEdge 5) (after .cellSamplePoint (after (.rowFallingEdge 15) t)) := rfl
      _ = inCell (filterDelay s.sup.cfg) true false b s := by rw [falls, sampled true rfl, rise_inCell (by decide)]

/-! ## One byte -/

/-- The start cell and the data cells (R27). -/
theorem takeBit_inCell (ago : Nat) (low : Bool) (taken : List Byte) (b : Byte) {n : Nat} (inside : n ≤ 8) :
    takeBit (byteCell b n) (inCell ago true low (assemblyAt taken b n) s) = inCell ago true low (assemblyAt taken b (n + 1)) s := by
  by_cases start : n = 0
  · subst start
    refine (takeBit_start (s := inCell ago true low (assemblyAt taken b 0) s) rfl).trans ?_
    simp only [inCell, assemblyAt, State.mapRli, shift_first]
  · have first : 1 ≤ n := by omega
    rw [takeBit_data (s := inCell ago true low (assemblyAt taken b n) s) _ first inside]
    have shifted := shift_data b first inside
    simp only [inCell, assemblyAt, State.mapRli, shifted]

theorem cells_received {taken : List Byte} {b : Byte} (current : s.svc.attn = attnNow s)
    (awaits : AwaitsFall (assemblyAt taken b 0) s t) {n : Nat} (inside : n ≤ 9) :
    AwaitsFall (assemblyAt taken b n) s (afterAll ((List.range n).flatMap fun c => cellCommands (byteCell b c)) t) := by
  induction n with
  | zero => exact awaits
  | succ n ih =>
    rw [List.range_succ, List.flatMap_append, afterAll_append, List.flatMap_singleton]
    exact cell_received current (fun low _ => takeBit_inCell _ low taken b (by omega)) (ih (by omega))

theorem byteCommands_eq (b : Byte) :
    (List.range 10).flatMap (fun c => cellCommands (byteCell b c)) =
      ((List.range 9).flatMap fun c => cellCommands (byteCell b c)) ++ cellCommands true := by
  rw [List.range_succ, List.flatMap_append, List.flatMap_singleton]
  rfl

/-- A frame goes on after these bytes: its length is not overlong, and it is not whole yet (R29, R30). -/
def GoesOn (bytes : List Byte) : Prop :=
  ¬(bytes.length = 2 ∧ 8 < frameLengthField bytes) ∧ ¬(3 ≤ bytes.length ∧ bytes.length = 3 + frameLengthField bytes)

theorem stop_inCell_goesOn (ago : Nat) {taken : List Byte} {b : Byte} (next : Byte) (goesOn : GoesOn (taken ++ [b])) (low : Bool) :
    takeBit true (inCell ago true low (assemblyAt taken b 9) s) = inCell ago true low (assemblyAt (taken ++ [b]) next 0) s := by
  rw [assemblyAt_next, takeBit_stop (s := inCell ago true low (assemblyAt taken b 9) s) rfl]
  simp only [inCell, assemblyAt, shift_stop, if_neg goesOn.1, if_neg goesOn.2]
  rfl

theorem byte_received {taken : List Byte} {b : Byte} (current : s.svc.attn = attnNow s)
    (goesOn : GoesOn (taken ++ [b])) (awaits : AwaitsFall (assemblyAt taken b 0) s t) (next : Byte) :
    AwaitsFall (assemblyAt (taken ++ [b]) next 0) s
      (afterAll ((List.range 10).flatMap fun c => cellCommands (byteCell b c)) t) := by
  rw [byteCommands_eq, afterAll_append]
  exact cell_received current (fun low _ => stop_inCell_goesOn _ next goesOn low)
    (cells_received current awaits (by decide))

/-! ## The whole frame -/

/-- A part of a frame goes on. -/
theorem goesOn_of_prefix {bytes first : List Byte} (short : frameLengthField bytes ≤ 8)
    (whole : bytes.length = 3 + frameLengthField bytes) (part : first <+: bytes) (less : first.length < bytes.length) : GoesOn first := by
  have field (two : 2 ≤ first.length) : frameLengthField first = frameLengthField bytes := by
    obtain ⟨rest, rfl⟩ := part
    simp only [frameLengthField, List.getD_append _ _ _ _ (show 1 < first.length by omega)]
  refine ⟨fun ⟨two, long⟩ => ?_, fun ⟨three, ends⟩ => ?_⟩
  · rw [field (by omega)] at long
    omega
  · rw [field (by omega)] at ends
    omega

theorem bytes_received {bytes : List Byte} (current : s.svc.attn = attnNow s)
    (short : frameLengthField bytes ≤ 8) (whole : bytes.length = 3 + frameLengthField bytes)
    (starts : AwaitsFall emptyAssembly s s) (taken : List Byte) :
    taken <+: bytes → taken.length < bytes.length →
      ∀ next, AwaitsFall (assemblyAt taken next 0) s (afterAll (frameCommands taken) s) := by
  induction taken using List.reverseRecOn with
  | nil =>
    intro _ _ next
    have empty : assemblyAt [] next 0 = emptyAssembly := by
      simp only [assemblyAt, shift_start]
      rfl
    rw [empty]
    exact starts
  | append_singleton taken b ih =>
    intro part less next
    have before := (List.prefix_append taken [b]).trans part
    have shorter : taken.length < bytes.length := by
      rw [List.length_append] at less
      omega
    rw [frameCommands, List.flatMap_append, afterAll_append, List.flatMap_singleton]
    exact byte_received current (goesOn_of_prefix short whole part less) (ih before shorter b) next

/-- The last stop cell ends the frame (R30). -/
theorem last_byte_received {taken : List Byte} {b : Byte} (current : s.svc.attn = attnNow s)
    (short : frameLengthField (taken ++ [b]) ≤ 8) (whole : (taken ++ [b]).length = 3 + frameLengthField (taken ++ [b]))
    (awaits : AwaitsFall (assemblyAt taken b 0) s t) :
    afterAll ((List.range 10).flatMap fun c => cellCommands (byteCell b c)) t =
      updateAttn (endFrame (crc taken) (taken ++ [b]) (inCell (filterDelay s.sup.cfg) true false (assemblyAt taken b 9) s)) := by
  have falls := cells_received current awaits (n := 9) (by decide) 5 (by decide)
  rw [byteCommands_eq, afterAll_append]
  generalize afterAll ((List.range 9).flatMap fun c => cellCommands (byteCell b c)) t = u at falls
  have sampled : afterAll (cellCommands true) u =
      updateAttn (takeBit true (inCell (filterDelay s.sup.cfg) true false (assemblyAt taken b 9) s)) := by
    calc afterAll (cellCommands true) u
        = after .cellSamplePoint (after (.rowRisingEdge 15) (after (.rowFallingEdge 5) u)) := rfl
      _ = _ := by
        rw [falls, rise_inCell (by decide), sample_inCell _ false _ s]
        rfl
  have overlong : ¬((taken ++ [b]).length = 2 ∧ 8 < frameLengthField (taken ++ [b])) := by omega
  have ends : 3 ≤ (taken ++ [b]).length ∧ (taken ++ [b]).length = 3 + frameLengthField (taken ++ [b]) := by omega
  have stops := takeBit_stop (s := inCell (filterDelay s.sup.cfg) true false (assemblyAt taken b 9) s) rfl
  rw [sampled, stops]
  simp only [inCell, assemblyAt, shift_stop, if_neg overlong, if_pos ends]

/-- Two states at the end of a frame that agree in SEEK_QUIET but for the quiet timer are left alike by it (R30, R31, R54). -/
theorem endFrame_withQuiet {x y : State} {q : QuietTimer} (silentX : x.rli.tx = none) (silentY : y.rli.tx = none)
    (alike : x.mapRli toSeekQuiet = withQuiet q (y.mapRli toSeekQuiet)) (check : Byte) (bytes : List Byte) :
    updateAttn (endFrame check bytes x) = withQuiet q (updateAttn (endFrame check bytes y)) := by
  unfold endFrame handGoodFrame receptionError
  simp only [silentX, silentY, alike]
  split
  · exact QuietBlind.updateAttn.comp ((QuietBlind.sortFrame _).comp
      (f := fun s => s.mapLnk fun l => { l with link := linkAfterFrame l.link }) fun _ _ => rfl) q (y.mapRli toSeekQuiet)
  · rfl

/-- Right after the start edge every whole frame is admitted (R29). -/
theorem frameAdmitted_start {bytes : List Byte} (rx : s.rli.rx = .inFrame) (silent : s.rli.tx = none)
    (fresh : s.rli.frame = emptyAssembly) (short : frameLengthField bytes ≤ 8) (whole : bytes.length = 3 + frameLengthField bytes) :
    frameAdmitted bytes s = true := by
  have some : 0 < bytes.length := by omega
  have agrees : agreesWith bytes s.rli.frame = true := by simp [agreesWith, fresh, emptyAssembly, some]
  simp only [frameAdmitted, rx, agrees, silent, decide_eq_true short, decide_eq_true whole, decide_true, Bool.and_self]

/-- In SEEK_QUIET the two ends of the frame, named right after the start edge and met at the last stop cell, differ in the quiet timer
(R24; log entry 40). -/
theorem stopCell_alike (bytes : List Byte) (ago : Nat) (a : Assembly) (undriven : s.rli.driver = none) :
    (stopCell bytes (inCell ago false true emptyAssembly s)).mapRli toSeekQuiet =
      withQuiet (.running 10) ((inCell ago true false a s).mapRli toSeekQuiet) := by
  rw [State.mapRli, toSeekQuiet_stopCell]
  simp [endedLine, inCell, emptyAssembly, withQuiet, State.mapRli, toSeekQuiet, undriven, stopCell]

/-- Settles O21: the first edge is the start edge; then byte by byte to the last stop cell, where the line differs from that of GOOD_FRAME in
the quiet timer alone. -/
theorem cellsReceivedMakeTheGoodFrame : Obligations.CellsReceivedMakeTheGoodFrame := by
  unfold Obligations.CellsReceivedMakeTheGoodFrame
  intro s bytes idle silent high undriven offer current short whole
  have starts := startEdge_begins idle high silent offer
  obtain rfl | ⟨taken, b, rfl⟩ := bytes.eq_nil_or_concat'
  · rw [List.length_nil] at whole
    omega
  have before := bytes_received current short whole starts taken (List.prefix_append _ _) (by simp) b
  have ends := last_byte_received current short whole before
  have cells : afterAll (frameCommands (taken ++ [b])) s =
      updateAttn (endFrame (crc taken) (taken ++ [b]) (inCell (filterDelay s.sup.cfg) true false (assemblyAt taken b 9) s)) := by
    rw [frameCommands, List.flatMap_append, afterAll_append, List.flatMap_singleton]
    exact ends
  have good : after (.goodFrame (taken ++ [b])) (inCell (filterDelay s.sup.cfg) false true emptyAssembly s) =
      updateAttn (endFrame (crc taken) (taken ++ [b])
        (stopCell (taken ++ [b]) (inCell (filterDelay s.sup.cfg) false true emptyAssembly s))) := by
    have ran := exec_goodFrame (frameAdmitted_start (s := inCell (filterDelay s.sup.cfg) false true emptyAssembly s) rfl rfl rfl short whole)
    rw [exec_eq_after, List.dropLast_concat] at ran
    injection ran
  have alike := endFrame_withQuiet (q := .running 10) (by simp [stopCell, inCell]) rfl
    (stopCell_alike (taken ++ [b]) (filterDelay s.sup.cfg) (assemblyAt taken b 9) undriven) (crc taken) (taken ++ [b])
  have same := endFrame_withQuiet (x := inCell (filterDelay s.sup.cfg) true false (assemblyAt taken b 9) s)
    (y := inCell (filterDelay s.sup.cfg) true false (assemblyAt taken b 9) s) (q := .running (filterDelay s.sup.cfg)) rfl rfl rfl
    (crc taken) (taken ++ [b])
  refine ⟨_, (runCommands_eq _ s).trans (congrArg _ ((congrArg _ (starts 15 (by decide))).trans good)), ?_, ?_⟩
  · rw [alike]
    rfl
  · rw [runCommands_eq, alike]
    exact congrArg _ (cells.trans same)

end Sys2Proof.Machine
end
